-- ==== Sys2Proof/Word.lean ====
section
/-! DEFINITION. The widths the spec uses (spec/00_scope.md section 4): u8, u16, u32 and the 64-bit view of a header (20_memory.md R64). -/

namespace Sys2Proof

/-- u8: one byte. -/
abbrev Byte := BitVec 8

/-- u16: the header's `payload_size` and the response's `size`. -/
abbrev Half := BitVec 16

/-- u32: every field of a record but the header's first three, and SEQ (R7, R33). -/
abbrev Word := BitVec 32

/-- The 8-byte header read as one little-endian number (R64). -/
abbrev HeaderWord := BitVec 64

/-- `Bytes`: a finite sequence of bytes, first byte first. -/
abbrev Bytes := List Byte

end Sys2Proof
end

