-- ==== Sys2Proof/Machine/Ports.lean ====
section
/-! DEFINITION. What crosses the ports of spec/10_state.md R31 (REQ, RES, TX, RX, DIAG), and the phases of R38: types only. -/

namespace Sys2Proof.Machine

/-- PH, the phase register (R38), one value a row of its table. -/
inductive Phase where
  | idle
  | build
  | txLead
  | txBody
  | txTrail
  | rxHunt
  | rxData
  | rxEsc
  | rxTrail
  | matching
  | status
deriving DecidableEq, Repr

/-- An opaque transport error value (R31 `res_terr`, U19). The block only carries it; the tag tells two values apart and has
no meaning (log 16). -/
structure TransportErr where
  tag : Nat
deriving DecidableEq, Repr, Inhabited

/-- The environment's answer to one TxWrite (R30). -/
inductive TxAnswer where
  | ok
  | err (e : TransportErr)
deriving DecidableEq, Repr, Inhabited

/-- The environment's answer to one RxRead (R30). -/
inductive RxAnswer where
  | byte (b : Byte)
  | err (e : TransportErr)
deriving DecidableEq, Repr, Inhabited

/-- `diag_cat` (R31, R120). -/
inductive DiagCat where
  | invalidCrc
  | invalidCommand
  | commandFailed
  | flashWriteErr
  | flashReadErr
  | readLengthErr
  | deflateError
  | unknown
deriving DecidableEq, Repr

/-- `res_kind` (R31, R400). -/
inductive ResKind where
  | ok
  | transportError
  | invalidResponse
deriving DecidableEq, Repr

/-- `res_cause` (R31, R400). -/
inductive ResCause where
  | none
  | badEscape
  | badTrailer
  | deviceFailure
  | discardLimit
deriving DecidableEq, Repr

/-- The outputs of the RES port (R31): `value` is present with READ_REG's success (R306, R240). `terr` carries the transport's error
(R400); that it is absent with every other result, where the spec gives it no value, is DESIGN CHOICE (log 23). -/
structure Result where
  kind : ResKind
  terr : Option TransportErr
  value : Option Word
  cause : ResCause
deriving DecidableEq, Repr

/-- One port event of the observation (R40). -/
inductive PortEvent where
  | tx (b : Byte) (a : TxAnswer)
  | rx (a : RxAnswer)
  | diag (c : DiagCat)
  | res (r : Result)
deriving DecidableEq, Repr

/-- One command request on the REQ port (R31): `req_cmd`, the four argument words and the payload buffer. -/
structure Request where
  cmd : Byte
  arg0 : Word
  arg1 : Word
  arg2 : Word
  arg3 : Word
  pay : Bytes
deriving DecidableEq, Repr

end Sys2Proof.Machine
end

