-- ==== Sys2Proof/Config.lean ====
section
/-! DEFINITION. What is fixed for one machine: the ten command kinds, the record of the parameters the spec leaves to a model
(spec/00_scope.md R6), and the free values of the environment (opaque, log 4). The parameters' values stand in
Machine/Parameters.lean. -/

namespace Sys2Proof

/-- The closed enumeration of command kinds (R101). -/
inductive Cmd where
  | sync
  | flashBegin
  | flashData
  | flashEnd
  | memBegin
  | memData
  | memEnd
  | writeReg
  | readReg
  | spiAttach
deriving DecidableEq, Repr

/-- The parameters that are open in R6 (decisions D6, D9, D12, D14, D17); `maxDiscard` is absent where it is unbounded. -/
structure Params where
  sizeIncludesPayload : Bool
  respLen : Nat
  escEscDecode : Byte
  seqReset : Word
  maxDiscard : Option Word
deriving DecidableEq, Repr

/-- FREE VALUE (log 4): the environment's answer to the n-th TxWrite that no listed answer covers (R30, U5). -/
opaque Config.freeTxAnswer : Nat → Machine.TxAnswer

/-- FREE VALUE (log 4): the environment's answer to the n-th RxRead that no listed answer covers (R30, U5). -/
opaque Config.freeRxAnswer : Nat → Machine.RxAnswer

end Sys2Proof
end

