-- ==== Sys2Proof/Machine/Parameters.lean ====
section
/-! DEFINITION. The values of the parameters and constants (spec/00_scope.md R4 to R6, 30_encoding.md R101 and R104). They are
fixed configuration, no registers (10_state.md R41). Log 14 says which of them the source leaves to the spec. -/

namespace Sys2Proof.Machine

/-- END, the frame delimiter (R4). -/
def slipEnd : Byte := 0xC0
/-- ESC, the escape byte (R4). -/
def slipEsc : Byte := 0xDB
/-- ESC_END, the escape follow byte that stands for END (R4). -/
def slipEscEnd : Byte := 0xDC
/-- ESC_ESC, the escape follow byte that stands for ESC (R4). -/
def slipEscEsc : Byte := 0xDD
/-- CHK_SEED (R5). -/
def chkSeed : Byte := 0xEF
/-- DIR_REQ (R6, D4). -/
def dirReq : Byte := 0x00
/-- DIR_RESP (R6, D4). -/
def dirResp : Byte := 0x01
/-- HDR_LEN (R6, D3). -/
def hdrLen : Nat := 8
/-- SYNC_MAGIC, 36 bytes (R6, R105, D7). -/
def syncMagic : Bytes := [0x07, 0x07, 0x12, 0x20] ++ List.replicate 32 0x55

/-- The open parameters at the values R6 gives them. -/
def defaultParams : Params where
  sizeIncludesPayload := false
  respLen := 10
  escEscDecode := 0xDB
  seqReset := 0
  maxDiscard := none

end Sys2Proof.Machine

namespace Sys2Proof

/-- All ten kinds, in the order of the opcode table. -/
def Cmd.all : List Cmd :=
  [.sync, .flashBegin, .flashData, .flashEnd, .memBegin, .memData, .memEnd, .writeReg, .readReg, .spiAttach]

/-- `command_id` (R101, D5). -/
def Cmd.id : Cmd → Byte
  | .sync => 0x08
  | .flashBegin => 0x02
  | .flashData => 0x03
  | .flashEnd => 0x04
  | .memBegin => 0x05
  | .memData => 0x07
  | .memEnd => 0x06
  | .writeReg => 0x09
  | .readReg => 0x0A
  | .spiAttach => 0x0D

/-- PSIZE, the length of a command's fixed fields (R104). -/
def Cmd.psize : Cmd → Nat
  | .sync => 36
  | .flashBegin => 16
  | .flashData => 16
  | .flashEnd => 4
  | .memBegin => 16
  | .memData => 16
  | .memEnd => 8
  | .writeReg => 16
  | .readReg => 4
  | .spiAttach => 8

/-- Data commands: FLASH_DATA and MEM_DATA (spec/00_scope.md section 5). -/
def Cmd.isData : Cmd → Bool
  | .flashData | .memData => true
  | .sync | .flashBegin | .flashEnd | .memBegin | .memEnd | .writeReg | .readReg | .spiAttach => false

/-- Begin commands: FLASH_BEGIN and MEM_BEGIN (spec/00_scope.md section 5). -/
def Cmd.isBegin : Cmd → Bool
  | .flashBegin | .memBegin => true
  | .sync | .flashData | .flashEnd | .memData | .memEnd | .writeReg | .readReg | .spiAttach => false

/-- The kind a `req_cmd` byte names, none for a byte outside the enumeration (R121). -/
def Cmd.ofId? (b : Byte) : Option Cmd := Cmd.all.find? (fun c => c.id = b)

end Sys2Proof
end

