-- ==== Sys2Proof/Machine/Checksum.lean ====
section
/-! DEFINITION. The checksum accumulator (spec/41_checksum.md R200). -/

namespace Sys2Proof.Machine

/-- The accumulator after one more payload byte: `CHK <- CHK ^ b`. -/
def chkStep (chk b : Byte) : Byte := chk ^^^ b

/-- Checksum (R200): the seed, then every payload byte in order. -/
def checksum (payload : Bytes) : Byte := payload.foldl chkStep chkSeed

end Sys2Proof.Machine
end

