-- ==== Sys2Proof/Syntax.lean ====
section
/-! DEFINITION. The instructions: the ten commands of spec/opcode_table.json, one constructor a row, with the operands the REQ port
carries for them (spec/42_commands.md R230 to R239). An argument word a command does not use is no operand (10_state.md R31). -/

namespace Sys2Proof

/-- One command. The docstring of a constructor names its rule; operands stand in the order of `req_arg`. -/
inductive Instr where
  /-- SYNC (R230). -/
  | sync
  /-- FLASH_BEGIN (R231). -/
  | flashBegin (eraseSize packetCount packetSize offset : Word)
  /-- FLASH_DATA (R232). -/
  | flashData (payload : Bytes)
  /-- FLASH_END (R233). -/
  | flashEnd (stayInLoader : Word)
  /-- MEM_BEGIN (R234). -/
  | memBegin (totalSize packetCount packetSize offset : Word)
  /-- MEM_DATA (R235). -/
  | memData (payload : Bytes)
  /-- MEM_END (R236). -/
  | memEnd (stayInLoader entryPoint : Word)
  /-- WRITE_REG (R238). -/
  | writeReg (address value mask delay : Word)
  /-- READ_REG (R237). -/
  | readReg (address : Word)
  /-- SPI_ATTACH (R239). -/
  | spiAttach (configuration : Word)
deriving DecidableEq, Repr

end Sys2Proof
end

