-- ==== Sys2Proof/WellFormed.lean ====
section
/-! DEFINITION. The one check an instruction's operands can fail: the payload's length is a u32 (spec/10_state.md R31, `req_len`).
Every argument word is admitted at every value (42_commands.md R222). -/

namespace Sys2Proof

/-- A payload the REQ port can present: its length fits `req_len` (R31). -/
def payloadFits (payload : Bytes) : Bool := decide (payload.length < 2 ^ 32)

/-- Well-formed: what a caller can present on REQ. -/
def Instr.wf : Instr → Bool
  | .sync => true
  | .flashBegin _ _ _ _ => true
  | .flashData payload => payloadFits payload
  | .flashEnd _ => true
  | .memBegin _ _ _ _ => true
  | .memData payload => payloadFits payload
  | .memEnd _ _ => true
  | .writeReg _ _ _ _ => true
  | .readReg _ => true
  | .spiAttach _ => true

end Sys2Proof
end

