-- ==== Sys2Proof/Decode.lean ====
section
/-! DEFINITION. Decoding and encoding (spec/30_encoding.md). Three decoders, all total: of a header word by the rows of
spec/opcode_table.json (`decodeHeader`), of a request on REQ (`decodeRequest`, the block's own decoder, R121), and of a whole
unescaped record (`decodeRecord`, the reading of R102 to R116 backwards, log 13). After them the encoder of records. -/

namespace Sys2Proof

open Machine (Request)

/-! ## Byte order (R8, R62; spec/00_scope.md section 4) -/

/-- `le16`. -/
def le16 (v : Half) : Bytes := [v.extractLsb' 0 8, v.extractLsb' 8 8]

/-- `le32`. -/
def le32 (v : Word) : Bytes := [v.extractLsb' 0 8, v.extractLsb' 8 8, v.extractLsb' 16 8, v.extractLsb' 24 8]

/-- The u32 whose little-endian bytes are b0, b1, b2, b3. -/
def ofLe32 (b0 b1 b2 b3 : Byte) : Word := b3 ++ b2 ++ b1 ++ b0

/-- The u64 whose little-endian bytes are b0 to b7: a header as one number (R64). -/
def ofLe64 (b0 b1 b2 b3 b4 b5 b6 b7 : Byte) : HeaderWord := b7 ++ b6 ++ b5 ++ b4 ++ b3 ++ b2 ++ b1 ++ b0

/-- `rd_le16(s, o)`. -/
def rdLe16 (s : Bytes) (o : Nat) : Half := s.getD (o + 1) 0 ++ s.getD o 0

/-- `rd_le32(s, o)`. -/
def rdLe32 (s : Bytes) (o : Nat) : Word := ofLe32 (s.getD o 0) (s.getD (o + 1) 0) (s.getD (o + 2) 0) (s.getD (o + 3) 0)

/-! ## The opcode table -/

/-- One row of spec/opcode_table.json: the bits a header word must have under the mask. -/
structure TableRow where
  mask : HeaderWord
  bits : HeaderWord
  cmd : Cmd
deriving DecidableEq, Repr

/-- spec/opcode_table.json, row by row. -/
def opcodeTable : List TableRow :=
  [ ⟨0xFFFFFFFFFFFFFFFF, 0x0000000000240800, .sync⟩,
    ⟨0xFFFFFFFFFFFFFFFF, 0x0000000000100200, .flashBegin⟩,
    ⟨0xFFFFFF00FFFFFFFF, 0x0000000000100300, .flashData⟩,
    ⟨0xFFFFFFFFFFFFFFFF, 0x0000000000040400, .flashEnd⟩,
    ⟨0xFFFFFFFFFFFFFFFF, 0x0000000000100500, .memBegin⟩,
    ⟨0xFFFFFF00FFFFFFFF, 0x0000000000100700, .memData⟩,
    ⟨0xFFFFFFFFFFFFFFFF, 0x0000000000080600, .memEnd⟩,
    ⟨0xFFFFFFFFFFFFFFFF, 0x0000000000100900, .writeReg⟩,
    ⟨0xFFFFFFFFFFFFFFFF, 0x0000000000040A00, .readReg⟩,
    ⟨0xFFFFFFFFFFFFFFFF, 0x0000000000080D00, .spiAttach⟩ ]

/-- A header word is an instance of a row. -/
def TableRow.covers (r : TableRow) (w : HeaderWord) : Bool := w &&& r.mask = r.bits

/-- Why a decoder refuses. -/
inductive DecodeReject where
  /-- The header's direction byte is not DIR_REQ (R102). -/
  | badDirection (direction : Byte)
  /-- The command id is not one of the ten (R101, R121). -/
  | unknownCommand (id : Byte)
  /-- The payload size is not PSIZE of the command (R103, R104). -/
  | badPayloadSize (size : Half)
  /-- The checksum field is not what R103 puts there. -/
  | badChecksum
  /-- The 36 bytes of SYNC are not SYNC_MAGIC (R105). -/
  | badMagic
  /-- A reserved zero field is not zero (R122). -/
  | badReserved
  /-- The bytes do not have the record's length (R116), or `data_size` is not the payload's length (R107). -/
  | badLength
deriving DecidableEq, Repr

/-- What a decoder answers. -/
inductive Decoded (α : Type) where
  | ok (a : α)
  | rejected (why : DecodeReject)
deriving DecidableEq, Repr

/-- The decoded value, if there is one. -/
def Decoded.toOption {α : Type} : Decoded α → Option α
  | .ok a => some a
  | .rejected _ => none

/-- Decode on where the first decoder accepts. -/
def Decoded.bind {α β : Type} (d : Decoded α) (f : α → Decoded β) : Decoded β :=
  match d with
  | .ok a => f a
  | .rejected why => .rejected why

/-- Why no row covers a header word, field by field in wire order (R102, R103). -/
def headerReject (w : HeaderWord) : DecodeReject :=
  let direction := w.extractLsb' 0 8
  let id := w.extractLsb' 8 8
  let size := w.extractLsb' 16 16
  if direction ≠ Machine.dirReq then .badDirection direction
  else match Cmd.ofId? id with
    | none => .unknownCommand id
    | some c => if size ≠ BitVec.ofNat 16 c.psize then .badPayloadSize size else .badChecksum

/-- The command kind a header word stands for (30_encoding.md section 8). A data command's checksum byte is free: the block
computes it (R103), so it names no operand (log 12). -/
def decodeHeader (w : HeaderWord) : Decoded Cmd :=
  match opcodeTable.find? (fun r => r.covers w) with
  | some r => .ok r.cmd
  | none => .rejected (headerReject w)

/-! ## Requests on REQ -/

/-- `req_len`: the length of the payload buffer, a u32 (R31). -/
def Machine.Request.len (r : Request) : Word := BitVec.ofNat 32 r.pay.length

/-- PAY[0..L-1] (R34): the buffer as far as `req_len` says, all of it for every buffer the port can present (log 1). -/
def Machine.Request.payload (r : Request) : Bytes := r.pay.take r.len.toNat

/-- The command of a kind with the request's words as operands; unused words are ignored (R31). -/
def instrOf (c : Cmd) (r : Request) : Instr :=
  match c with
  | .sync => .sync
  | .flashBegin => .flashBegin r.arg0 r.arg1 r.arg2 r.arg3
  | .flashData => .flashData r.payload
  | .flashEnd => .flashEnd r.arg0
  | .memBegin => .memBegin r.arg0 r.arg1 r.arg2 r.arg3
  | .memData => .memData r.payload
  | .memEnd => .memEnd r.arg0 r.arg1
  | .writeReg => .writeReg r.arg0 r.arg1 r.arg2 r.arg3
  | .readReg => .readReg r.arg0
  | .spiAttach => .spiAttach r.arg0

/-- The block's decoder (R32, R121): the command a request names, or its rejection. -/
def decodeRequest (r : Request) : Decoded Instr :=
  match Cmd.ofId? r.cmd with
  | some c => .ok (instrOf c r)
  | none => .rejected (.unknownCommand r.cmd)

/-! ## Table words -/

/-- The argument word that stands `n` words after the header in an instruction longer than its header. -/
def tableArg (v n : Nat) : Word := BitVec.ofNat 32 (v >>> (64 + 32 * n))

/-- The request a table word stands for: the kind its header names, the words after the header as `req_arg`, all zero above
`nbits`, and an empty payload (log 12). -/
def tableRequest (nbits w : Nat) : Decoded Request :=
  let v := w % 2 ^ nbits
  (decodeHeader (BitVec.ofNat 64 v)).bind fun c =>
    .ok ⟨c.id, tableArg v 0, tableArg v 1, tableArg v 2, tableArg v 3, []⟩

/-- The instruction a table word stands for. -/
def decodeTableWord (nbits w : Nat) : Option Instr :=
  ((tableRequest nbits w).bind decodeRequest).toOption

/-! ## Records backwards -/

/-- Split an 8-byte header off a record (R102). -/
def takeHeader : Bytes → Decoded (HeaderWord × Bytes)
  | b0 :: b1 :: b2 :: b3 :: b4 :: b5 :: b6 :: b7 :: rest => .ok (ofLe64 b0 b1 b2 b3 b4 b5 b6 b7, rest)
  | _ => .rejected .badLength

/-- Split one u32 field off (R7, R62). -/
def takeWord : Bytes → Decoded (Word × Bytes)
  | b0 :: b1 :: b2 :: b3 :: rest => .ok (ofLe32 b0 b1 b2 b3, rest)
  | _ => .rejected .badLength

/-- Nothing follows the last field of a command without payload (R116). -/
def takeEnd (bs : Bytes) (i : Instr) : Decoded (Instr × Option Word) :=
  if bs = [] then .ok (i, none) else .rejected .badLength

/-- One field and nothing after it. -/
def takeOne (bs : Bytes) (f : Word → Instr) : Decoded (Instr × Option Word) :=
  (takeWord bs).bind fun (a, bs) => takeEnd bs (f a)

/-- Two fields and nothing after them. -/
def takeTwo (bs : Bytes) (f : Word → Word → Instr) : Decoded (Instr × Option Word) :=
  (takeWord bs).bind fun (a, bs) => takeOne bs (f a)

/-- Four fields and nothing after them. -/
def takeFour (bs : Bytes) (f : Word → Word → Word → Word → Instr) : Decoded (Instr × Option Word) :=
  (takeWord bs).bind fun (a, bs) => (takeWord bs).bind fun (b, bs) => takeTwo bs (f a b)

/-- The fields of a data command (R107, R110): `data_size`, `sequence`, two zero words, then the payload, which must have that
length and the header's checksum byte. -/
def takeData (chk : Byte) (bs : Bytes) (f : Bytes → Instr) : Decoded (Instr × Option Word) :=
  (takeWord bs).bind fun (size, bs) => (takeWord bs).bind fun (seq, bs) =>
    (takeWord bs).bind fun (zero0, bs) => (takeWord bs).bind fun (zero1, payload) =>
      if zero0 ≠ 0 ∨ zero1 ≠ 0 then .rejected .badReserved
      else if size.toNat ≠ payload.length then .rejected .badLength
      else if Machine.checksum payload ≠ chk then .rejected .badChecksum
      else .ok (f payload, some seq)

/-- The body of SYNC: the magic and nothing else (R105). -/
def takeMagic (bs : Bytes) : Decoded (Instr × Option Word) :=
  if bs = Machine.syncMagic then .ok (.sync, none) else .rejected .badMagic

/-- The configuration word and the zero word of SPI_ATTACH (R114). -/
def takeSpi (bs : Bytes) : Decoded (Instr × Option Word) :=
  (takeWord bs).bind fun (a, bs) => (takeWord bs).bind fun (zero, bs) =>
    if zero ≠ 0 then .rejected .badReserved else takeEnd bs (.spiAttach a)

/-- The fields that follow the header of a command of a kind (R105 to R114). -/
def takeFields (c : Cmd) (w : HeaderWord) (bs : Bytes) : Decoded (Instr × Option Word) :=
  match c with
  | .sync => takeMagic bs
  | .flashBegin => takeFour bs .flashBegin
  | .flashData => takeData (w.extractLsb' 32 8) bs .flashData
  | .flashEnd => takeOne bs .flashEnd
  | .memBegin => takeFour bs .memBegin
  | .memData => takeData (w.extractLsb' 32 8) bs .memData
  | .memEnd => takeTwo bs .memEnd
  | .writeReg => takeFour bs .writeReg
  | .readReg => takeOne bs .readReg
  | .spiAttach => takeSpi bs

/-- The command an unescaped record (BODY then payload) stands for, with the sequence number of a data command. -/
def decodeRecord (bs : Bytes) : Decoded (Instr × Option Word) :=
  (takeHeader bs).bind fun (w, bs) => (decodeHeader w).bind fun c => takeFields c w bs

/-! ## The encoder -/

/-- The kind of a command. -/
def Instr.cmd : Instr → Cmd
  | .sync => .sync
  | .flashBegin _ _ _ _ => .flashBegin
  | .flashData _ => .flashData
  | .flashEnd _ => .flashEnd
  | .memBegin _ _ _ _ => .memBegin
  | .memData _ => .memData
  | .memEnd _ _ => .memEnd
  | .writeReg _ _ _ _ => .writeReg
  | .readReg _ => .readReg
  | .spiAttach _ => .spiAttach

/-- The trailing payload: a data command's, empty for every other command (R100). -/
def Instr.payload : Instr → Bytes
  | .flashData payload => payload
  | .memData payload => payload
  | .sync | .flashBegin _ _ _ _ | .flashEnd _ | .memBegin _ _ _ _ | .memEnd _ _ | .writeReg _ _ _ _ | .readReg _
  | .spiAttach _ => []

/-- The header's checksum field (R103): the checksum of a data command's payload, zero-extended, else zero. -/
def Instr.chk32 (i : Instr) : Word :=
  if i.cmd.isData then (Machine.checksum i.payload).setWidth 32 else 0

/-- The header (R102, R103), with `payload_size` = PSIZE as the table has it. -/
def Instr.header (i : Instr) : Bytes :=
  [Machine.dirReq, i.cmd.id] ++ le16 (BitVec.ofNat 16 i.cmd.psize) ++ le32 i.chk32

/-- The fixed fields (R105 to R114); `seq` is the sequence number a data command carries. -/
def Instr.fields (i : Instr) (seq : Word) : Bytes :=
  match i with
  | .sync => Machine.syncMagic
  | .flashBegin a b c d => le32 a ++ le32 b ++ le32 c ++ le32 d
  | .flashData payload => le32 (BitVec.ofNat 32 payload.length) ++ le32 seq ++ le32 0 ++ le32 0
  | .flashEnd a => le32 a
  | .memBegin a b c d => le32 a ++ le32 b ++ le32 c ++ le32 d
  | .memData payload => le32 (BitVec.ofNat 32 payload.length) ++ le32 seq ++ le32 0 ++ le32 0
  | .memEnd a b => le32 a ++ le32 b
  | .writeReg a b c d => le32 a ++ le32 b ++ le32 c ++ le32 d
  | .readReg a => le32 a
  | .spiAttach a => le32 a ++ le32 0

/-- The unescaped record: header, fixed fields, payload (R116). -/
def encode (i : Instr) (seq : Word) : Bytes := i.header ++ i.fields seq ++ i.payload

/-- The sequence number a record carries, if it is a data command's. -/
def Instr.carriedSeq (i : Instr) (seq : Word) : Option Word := if i.cmd.isData then some seq else none

/-- The request that presents a command on REQ, with zero in the words it does not use. -/
def Instr.toRequest (i : Instr) : Request :=
  match i with
  | .sync => ⟨i.cmd.id, 0, 0, 0, 0, []⟩
  | .flashBegin a b c d => ⟨i.cmd.id, a, b, c, d, []⟩
  | .flashData payload => ⟨i.cmd.id, 0, 0, 0, 0, payload⟩
  | .flashEnd a => ⟨i.cmd.id, a, 0, 0, 0, []⟩
  | .memBegin a b c d => ⟨i.cmd.id, a, b, c, d, []⟩
  | .memData payload => ⟨i.cmd.id, 0, 0, 0, 0, payload⟩
  | .memEnd a b => ⟨i.cmd.id, a, b, 0, 0, []⟩
  | .writeReg a b c d => ⟨i.cmd.id, a, b, c, d, []⟩
  | .readReg a => ⟨i.cmd.id, a, 0, 0, 0, []⟩
  | .spiAttach a => ⟨i.cmd.id, a, 0, 0, 0, []⟩

end Sys2Proof
end

