-- ==== Sys2Proof/Machine/State.lean ====
section
/-! DEFINITION. The machine's state (spec/10_state.md: every register of section 6; the ports of R31 as streams), the state after reset
(70_reset_and_hazards.md R450), and the reasons a step can stop. -/

namespace Sys2Proof.Machine

/-- The state. Registers of the block first, then the environment's streams, then the model's own fields (`draws`, `events`). -/
structure State where
  /-- SEQ (R33). -/
  seq : Word
  /-- PH (R38). -/
  ph : Phase
  /-- CUR_CMD (R34). -/
  curCmd : Byte
  /-- WANT (R34). -/
  want : Bool
  /-- `req_arg[0]` as latched (R34, log 8). -/
  arg0 : Word
  /-- `req_arg[1]` as latched. -/
  arg1 : Word
  /-- `req_arg[2]` as latched. -/
  arg2 : Word
  /-- `req_arg[3]` as latched. -/
  arg3 : Word
  /-- PAY (R34): the payload buffer, as the caller presented it. -/
  pay : Bytes
  /-- L (R34). -/
  len : Word
  /-- BODY (R35). -/
  body : Bytes
  /-- CHK (R36). -/
  chk : Byte
  /-- TI (R38), a count (log 7). -/
  ti : Nat
  /-- ESCP (R38). -/
  escp : Option Byte
  /-- RB (R37). -/
  rb : Bytes
  /-- RI (R37), an index (log 7). -/
  ri : Nat
  /-- NDISC (R37). -/
  ndisc : Word
  /-- The RES outputs: what the port presents, none where nothing is presented (R31, log 10). -/
  res : Option Result
  /-- REQ: the requests the caller presents, oldest first (R39). -/
  reqs : List Request
  /-- TX: the environment's answers to the TxWrites to come (R30). -/
  txAns : List TxAnswer
  /-- RX: the environment's answers to the RxReads to come (R30, R68). -/
  rxAns : List RxAnswer
  /-- The caller's changes of PAY, one entry a payload read to come: the byte it finds there, none where it is as presented
  (R61, U1, log 6). -/
  payChg : List (Option Byte)
  /-- RST: whether a pulse comes, one entry a step to come (R450, log 5). -/
  rstIn : List Bool
  /-- MODEL'S OWN: the index of the next free answer (log 4). -/
  draws : Nat
  /-- MODEL'S OWN: the observation so far, the port events in order (R40, log 11). -/
  events : List PortEvent
deriving DecidableEq, Repr

/-- Why the machine stops with a fault. -/
inductive Fault where
  /-- TX_BODY asks for byte `ti` of a record and payload that have no such byte. Raised by the TX_BODY step (R153) only, in
  states no run from reset reaches (log 18). Safe: the machine stops where it would read an index that does not exist. -/
  | sendIndexOutOfRange (ti : Nat)
deriving DecidableEq, Repr

/-- Why the machine gives no meaning. -/
inductive Refusal where
  /-- Raised by a dispatch arm whose instruction has no meaning yet. Safe. -/
  | notModelled (mnemonic : String)
  /-- Raised by the step that would take a request whose id is not one of the ten (R121, D18, log 15). Safe. -/
  | unknownCommand (id : Byte)
deriving DecidableEq, Repr

/-- The machine right after reset (R450): PH = IDLE, SEQ = SEQ_RESET, no RES presented. The per-command registers, which the spec
leaves unspecified, hold the values log 2 names; no request, no answer, no pulse is listed. -/
def State.reset : State where
  seq := defaultParams.seqReset
  ph := .idle
  curCmd := 0
  want := false
  arg0 := 0
  arg1 := 0
  arg2 := 0
  arg3 := 0
  pay := []
  len := 0
  body := List.replicate 12 0
  chk := 0
  ti := 0
  escp := none
  rb := List.replicate defaultParams.respLen 0
  ri := 0
  ndisc := 0
  res := none
  reqs := []
  txAns := []
  rxAns := []
  payChg := []
  rstIn := []
  draws := 0
  events := []

/-- The outcome of one step of this machine. -/
abbrev Out := Host.Outcome State Fault Refusal

end Sys2Proof.Machine
end

