-- ==== Sys2Proof/Machine/Flags.lean ====
section
/-! DEFINITION. The block's condition outputs. It has no flags register (spec/10_state.md R41); what a step branches on or reports is
here: the match test (R301), the status byte (R119), the category of an error code (R120), the result codes (R400). -/

namespace Sys2Proof.Machine

/-- A frame matches: direction DIR_RESP and the outstanding command's id (R301). -/
def frameMatches (rb : Bytes) (cmd : Byte) : Bool := rb.getD 0 0 = dirResp ∧ rb.getD 1 0 = cmd

/-- The status byte says FAILURE: every value but 0x00 (R119). -/
def statusFails (rb : Bytes) : Bool := rb.getD 8 0 ≠ 0

/-- `r_value` (R118). -/
def respValue (rb : Bytes) : Word := rdLe32 rb 4

/-- The diagnostic category of an error code (R120). -/
def category (code : Byte) : DiagCat :=
  if code = 0x05 then .invalidCrc
  else if code = 0x06 then .invalidCommand
  else if code = 0x07 then .commandFailed
  else if code = 0x08 then .flashWriteErr
  else if code = 0x09 then .flashReadErr
  else if code = 0x0A then .readLengthErr
  else if code = 0x0B then .deflateError
  else .unknown

/-- The category of a received frame's error code, RB[9] (R304). -/
def respCategory (rb : Bytes) : DiagCat := category (rb.getD 9 0)

/-- The result of a success: with the value field where it is wanted, else without a value (R303, R240). No `terr` is presented: DESIGN
CHOICE (log 23). -/
def okResult (want : Bool) (rb : Bytes) : Result :=
  ⟨.ok, none, if want then some (respValue rb) else none, .none⟩

/-- The result of a transport error, which carries the error value verbatim (R400). -/
def transportResult (e : TransportErr) : Result := ⟨.transportError, some e, none, .none⟩

/-- The result of an invalid response (R400). No `terr` is presented: DESIGN CHOICE (log 23). -/
def invalidResult (cause : ResCause) : Result := ⟨.invalidResponse, none, none, cause⟩

/-- The numeric code of a result kind (R400, D30). -/
def ResKind.code : ResKind → Nat
  | .ok => 0
  | .transportError => 1
  | .invalidResponse => 2

/-- The numeric code of a result cause (R400, D30). -/
def ResCause.code : ResCause → Nat
  | .none => 0
  | .badEscape => 1
  | .badTrailer => 2
  | .deviceFailure => 3
  | .discardLimit => 4

/-- The discarded frame that `ndisc` earlier ones precede exceeds the bound (R300, R302). The count is compared before it is
narrowed to 32 bits (log 17). -/
def discardExceeds (bound : Option Word) (ndisc : Word) : Bool :=
  match bound with
  | none => false
  | some n => n.toNat < ndisc.toNat + 1

end Sys2Proof.Machine
end

