-- ==== Sys2Proof/Machine/Operands.lean ====
section
/-! DEFINITION. Where a command's operands come from: the latched request (spec/10_state.md R34), the payload buffer as its reads find
it (20_memory.md R61), and the byte the transmitter is at (40_slip_codec.md R153). -/

namespace Sys2Proof.Machine

/-- The latched request (R34). -/
def State.latched (s : State) : Request := ⟨s.curCmd, s.arg0, s.arg1, s.arg2, s.arg3, s.pay⟩

/-- The command being served: the latch decoded. -/
def State.current (s : State) : Decoded Instr := decodeRequest s.latched

/-- A command id is a data command's. -/
def isDataId (b : Byte) : Bool := (Cmd.ofId? b).any Cmd.isData

/-- What a run of payload reads finds, read in order: at each byte the caller's change, or the byte as presented (R61, U1). -/
def observed : Bytes → List (Option Byte) → Bytes
  | [], _ => []
  | b :: bs, [] => b :: observed bs []
  | b :: bs, c :: cs => c.getD b :: observed bs cs

/-- What the next payload read, of byte `i`, finds (R61, U1). -/
def State.payByte (s : State) (i : Nat) : Byte := (s.payChg.headD none).getD (s.pay.getD i 0)

/-- The number of bytes TX_BODY sends before escaping: the record's, and L more for a data command (R153). -/
def State.sendTotal (s : State) : Nat := s.body.length + if isDataId s.curCmd then s.len.toNat else 0

/-- The byte TX_BODY is at comes from the payload (R153). -/
def State.sendsPayload (s : State) : Bool := s.body.length ≤ s.ti

/-- The byte TX_BODY is at (R153). -/
def State.sendByte (s : State) : Byte :=
  if s.sendsPayload then s.payByte (s.ti - s.body.length) else s.body.getD s.ti 0

end Sys2Proof.Machine
end

