-- ==== Sys2Proof/Machine/Ops.lean ====
section
/-! DEFINITION. The named operations: port transfers (spec/00_scope.md section 4: TxWrite, RxRead, Diag), acceptance of a request
(10_state.md R39), completion (60_exceptions.md R407: this block's one form of an exception, with no return from it, R409), and block
reset (70_reset_and_hazards.md R450). -/

namespace Sys2Proof.Machine

/-- Record a port event (R40). -/
def State.emit (s : State) (e : PortEvent) : State := { s with events := s.events ++ [e] }

/-- PH <- ph. -/
def State.goto (s : State) (ph : Phase) : State := { s with ph := ph }

/-! ## Port transfers -/

/-- The environment's answer to the next TxWrite: the next listed answer, or a free one (R30, log 4). -/
def State.txAnswer (s : State) : TxAnswer := s.txAns.headD (Config.freeTxAnswer s.draws)

/-- The state after TxWrite(b): the answer is used up and the event recorded. -/
def State.afterTx (s : State) (b : Byte) : State :=
  { s with
    txAns := s.txAns.tail
    draws := if s.txAns.isEmpty then s.draws + 1 else s.draws
    events := s.events ++ [.tx b s.txAnswer] }

/-- The environment's answer to the next RxRead: the next listed answer, or a free one (R30, log 4). -/
def State.rxAnswer (s : State) : RxAnswer := s.rxAns.headD (Config.freeRxAnswer s.draws)

/-- The state after RxRead: the byte is consumed (R68, log 21) and the event recorded. -/
def State.afterRx (s : State) : State :=
  { s with
    rxAns := s.rxAns.tail
    draws := if s.rxAns.isEmpty then s.draws + 1 else s.draws
    events := s.events ++ [.rx s.rxAnswer] }

/-! ## Completion -/

/-- Present RES once and go to IDLE; nothing else is saved or restored (R407). -/
def State.complete (s : State) (r : Result) : State :=
  { s with res := some r, ph := .idle, events := s.events ++ [.res r] }

/-- `raise TransportError(e)` (R401, R402). -/
def raiseTransport (e : TransportErr) (s : State) : Out := .next (s.complete (transportResult e))

/-- `raise InvalidResponse(cause)` (R400). -/
def raiseInvalid (cause : ResCause) (s : State) : Out := .next (s.complete (invalidResult cause))

/-- `complete OK(value?)` (R303). -/
def completeOk (s : State) : Out := .next (s.complete (okResult s.want s.rb))

/-- `try TxWrite(b)`, and on `ok` go on with `k`. -/
def tryTx (b : Byte) (s : State) (k : State → Out) : Out :=
  match s.txAnswer with
  | .ok => k (s.afterTx b)
  | .err e => raiseTransport e (s.afterTx b)

/-- `try RxRead()`, and on a byte go on with `k`. -/
def tryRx (s : State) (k : Byte → State → Out) : Out :=
  match s.rxAnswer with
  | .byte b => k b s.afterRx
  | .err e => raiseTransport e s.afterRx

/-! ## Acceptance -/

/-- Accept a request (R39): latch it, clear NDISC, go to BUILD. RES presents nothing from here to the completion (log 10). -/
def State.accept (s : State) (r : Request) : State :=
  { s with
    curCmd := r.cmd
    want := r.cmd = Cmd.readReg.id
    arg0 := r.arg0
    arg1 := r.arg1
    arg2 := r.arg2
    arg3 := r.arg3
    pay := r.payload
    len := r.len
    ndisc := 0
    res := none
    ph := .build }

/-! ## Block reset -/

/-- RST (R450): IDLE, SEQ_RESET, no RES; the per-command registers as log 2 names them. The environment's streams stay where they
are (R451), and no port event occurs. -/
def State.blockReset (s : State) : State :=
  { State.reset with
    reqs := s.reqs
    txAns := s.txAns
    rxAns := s.rxAns
    payChg := s.payChg
    rstIn := s.rstIn
    draws := s.draws
    events := s.events }

/-- An RST pulse comes at this step. -/
def State.rstNow (s : State) : Bool := s.rstIn.headD false

/-- The state with this step's entry of the RST schedule used up. -/
def State.takeRst (s : State) : State := { s with rstIn := s.rstIn.tail }

end Sys2Proof.Machine
end

