-- ==== Sys2Proof/Machine/Receive.lean ====
section
/-! DEFINITION. FrameReceive (spec/40_slip_codec.md R160), one step a received byte: RX_HUNT, RX_DATA, RX_ESC, RX_TRAIL. -/

namespace Sys2Proof.Machine

/-- RI <- 0, on to RX_DATA (R160). -/
def State.beginData (s : State) : State := { s with ri := 0, ph := .rxData }

/-- Store decoded byte RI and go on: to the next position, or to the trailer after the last of `n` (R160). -/
def State.store (s : State) (n : Nat) (v : Byte) : State :=
  { s with rb := s.rb.set s.ri v, ri := s.ri + 1, ph := if s.ri + 1 < n then .rxData else .rxTrail }

/-- RX_HUNT: discard every byte up to the first END; then RI <- 0 (R161). -/
def rxHuntStep (s : State) : Out :=
  tryRx s fun b s => if b = slipEnd then .next s.beginData else .next s

/-- RX_DATA: ESC opens an escape pair; every other byte, END included, is data (R160, R162). -/
def rxDataStep (p : Params) (s : State) : Out :=
  tryRx s fun b s => if b = slipEsc then .next (s.goto .rxEsc) else .next (s.store p.respLen b)

/-- The byte an escape pair with this follow byte decodes to, none for a bad pair (R163). -/
def unescape (p : Params) (c : Byte) : Option Byte :=
  if c = slipEscEnd then some slipEnd else if c = slipEscEsc then some p.escEscDecode else none

/-- RX_ESC: the follow byte of an escape pair (R163). -/
def rxEscStep (p : Params) (s : State) : Out :=
  tryRx s fun c s =>
    match unescape p c with
    | some v => .next (s.store p.respLen v)
    | none => raiseInvalid .badEscape s

/-- RX_TRAIL: one more byte, which must be END (R164). -/
def rxTrailStep (s : State) : Out :=
  tryRx s fun t s => if t = slipEnd then .next (s.goto .matching) else raiseInvalid .badTrailer s

end Sys2Proof.Machine
end

