-- ==== Sys2Proof/Machine/Matcher.lean ====
section
/-! DEFINITION. The response matcher and status decoder (spec/43_response_matcher.md R300 to R304): MATCH and STATUS. -/

namespace Sys2Proof.Machine

/-- NDISC <- NDISC + 1 (R300). -/
def State.countDiscard (s : State) : State := { s with ndisc := s.ndisc + 1 }

/-- Discard the frame and receive again, or end the command where the bound is exceeded (R300, R302). -/
def discardFrame (p : Params) (s : State) : Out :=
  if discardExceeds p.maxDiscard s.ndisc then raiseInvalid .discardLimit s.countDiscard
  else .next (s.countDiscard.goto .rxHunt)

/-- MATCH: test the frame's first two bytes (R301). -/
def matchStep (p : Params) (s : State) : Out :=
  if frameMatches s.rb s.curCmd then .next (s.goto .status) else discardFrame p s

/-- STATUS: on FAILURE emit the category and complete DEVICE_FAILURE (R304); on SUCCESS complete OK (R303). -/
def statusStep (s : State) : Out :=
  if statusFails s.rb then raiseInvalid .deviceFailure (s.emit (.diag (respCategory s.rb))) else completeOk s

end Sys2Proof.Machine
end

