-- ==== Sys2Proof/Machine/Slip.lean ====
section
/-! DEFINITION. The SLIP escape encoder as a pure function (spec/40_slip_codec.md R150, R151) and the frame of a record
(30_encoding.md R100). The phases that send and receive it are in Machine/Transmit.lean and Machine/Receive.lean. -/

namespace Sys2Proof.Machine

/-- The first wire byte of a body byte (R151). -/
def escFirst (b : Byte) : Byte := if b = slipEnd ∨ b = slipEsc then slipEsc else b

/-- The second wire byte of a body byte, if there is one (R151). -/
def escSecond (b : Byte) : Option Byte :=
  if b = slipEnd then some slipEscEnd else if b = slipEsc then some slipEscEsc else none

/-- `esc1`: the one or two wire bytes of a body byte (R151). -/
def esc1 (b : Byte) : Bytes := escFirst b :: (escSecond b).toList

/-- `esc`: the escape function, byte by byte (R151). -/
def esc (s : Bytes) : Bytes := s.flatMap esc1

/-- The frame of a body: END, the escaped body, END (R100, R152). -/
def frame (s : Bytes) : Bytes := slipEnd :: (esc s ++ [slipEnd])

end Sys2Proof.Machine
end

