-- ==== Sys2Proof/Machine/Transmit.lean ====
section
/-! DEFINITION. FrameSend (spec/40_slip_codec.md R152), one step a wire byte: TX_LEAD, TX_BODY (R153), TX_TRAIL. -/

namespace Sys2Proof.Machine

/-- TI <- 0, ESCP <- none, on to TX_BODY (R153). -/
def State.beginBody (s : State) : State := { s with ti := 0, escp := none, ph := .txBody }

/-- ESCP <- none (R153). -/
def State.dropEscp (s : State) : State := { s with escp := none }

/-- The payload read of a TX_BODY step, if the step makes one, is used up (R61). -/
def State.changesLeft (s : State) : List (Option Byte) := if s.sendsPayload then s.payChg.tail else s.payChg

/-- TX_BODY moves past byte TI: ESCP holds the second byte of its escape pair, if it has one (R153). -/
def State.pastByte (s : State) : State :=
  { s with escp := escSecond s.sendByte, ti := s.ti + 1, payChg := s.changesLeft }

/-- TX_LEAD: transmit END; TI <- 0 and ESCP <- none when that succeeds (R152, R153). -/
def txLeadStep (s : State) : Out := tryTx slipEnd s fun s => .next s.beginBody

/-- The end of a TX_BODY step whose transfer succeeded (R153, last line). -/
def txBodyDone (s : State) : State := if s.escp = none ∧ s.ti = s.sendTotal then s.goto .txTrail else s

/-- The TX_BODY step that sends the second byte of an escape pair; ESCP is cleared also where the transfer fails (R153,
log 22). -/
def txEscapeStep (w : Byte) (s : State) : Out := tryTx w s.dropEscp fun s => .next (txBodyDone s)

/-- The TX_BODY step that sends the first wire byte of byte TI; ESCP and TI move on also where the transfer fails
(R153, log 22). -/
def txByteStep (s : State) : Out := tryTx (escFirst s.sendByte) s.pastByte fun s => .next (txBodyDone s)

/-- TX_BODY (R153). Past the last byte there is nothing to read: a fault, in states no run reaches (log 18). -/
def txBodyStep (s : State) : Out :=
  match s.escp with
  | some w => txEscapeStep w s
  | none => if s.ti < s.sendTotal then txByteStep s else .fault (.sendIndexOutOfRange s.ti)

/-- TX_TRAIL: transmit END, then await the response (R152, R221). -/
def txTrailStep (s : State) : Out := tryTx slipEnd s fun s => .next (s.goto .rxHunt)

end Sys2Proof.Machine
end

