-- ==== Sys2Proof/Machine/Command.lean ====
section
/-! DEFINITION. What every command shares (spec/42_commands.md section 1): the header helper, the builder's write of BODY (R220), SEQ's
two updates (R224, R225), and Execute (R221), one step at a time. -/

namespace Sys2Proof.Machine

/-- `payload_size` of R103. -/
def payloadSize (p : Params) (c : Cmd) (len : Word) : Half :=
  BitVec.ofNat 16 c.psize + if p.sizeIncludesPayload ∧ c.isData then len.setWidth 16 else 0

/-- `Hdr(id, psize, chk32)` (42_commands.md, helper). -/
def hdr (c : Cmd) (psize : Half) (chk32 : Word) : Bytes := [dirReq, c.id] ++ le16 psize ++ le32 chk32

/-- BUILD's end: BODY is written, and FrameSend begins (R220, R221). -/
def State.built (s : State) (body : Bytes) : State := { s with body := body, ph := .txLead }

/-- SEQ <- 0 (R224): the literal 0, not SEQ_RESET. -/
def State.restartSeq (s : State) : State := { s with seq := 0 }

/-- SEQ <- SEQ +_32 1 (R225). -/
def State.advanceSeq (s : State) : State := { s with seq := s.seq + 1 }

/-- CHK <- Checksum() over the payload as its reads find it, in order (R200, R61). -/
def State.takeChecksum (s : State) (payload : Bytes) : State :=
  { s with chk := checksum (observed payload s.payChg), payChg := s.payChg.drop payload.length }

/-- BUILD of a command without payload: the header with checksum field 0, then its fields (R103, R220). -/
def State.buildPlain (s : State) (p : Params) (c : Cmd) (fields : Bytes) : State :=
  s.built (hdr c (payloadSize p c 0) 0 ++ fields)

/-- BUILD of a data command (R232): the sequence field takes SEQ, then SEQ advances; the header takes the checksum. -/
def State.buildData (s : State) (p : Params) (c : Cmd) (payload : Bytes) : State :=
  let len : Word := BitVec.ofNat 32 payload.length
  let t := s.advanceSeq.takeChecksum payload
  t.built (hdr c (payloadSize p c len) (t.chk.setWidth 32) ++ le32 len ++ le32 s.seq ++ le32 0 ++ le32 0)

/-- One step of Execute (R221) for the command that `req` presents and `build` builds: acceptance in IDLE (R39), the builder in
BUILD, then FrameSend and Await (log 9). -/
def execute (p : Params) (req : Request) (build : State → State) (s : State) : Out :=
  match s.ph with
  | .idle => .next (s.accept req)
  | .build => .next (build s)
  | .txLead => txLeadStep s
  | .txBody => txBodyStep s
  | .txTrail => txTrailStep s
  | .rxHunt => rxHuntStep s
  | .rxData => rxDataStep p s
  | .rxEsc => rxEscStep p s
  | .rxTrail => rxTrailStep s
  | .matching => matchStep p s
  | .status => statusStep s

end Sys2Proof.Machine
end

