-- ==== Sys2Proof/Machine/Flash.lean ====
section
/-! DEFINITION. The flash transfer: FLASH_BEGIN (spec/42_commands.md R231), FLASH_DATA (R232), FLASH_END (R233). -/

namespace Sys2Proof.Machine

/-- FLASH_BEGIN (R231): SEQ <- 0, then the four words verbatim. -/
def execFlashBegin (eraseSize packetCount packetSize offset : Word) (s : State) : Out :=
  execute defaultParams (Instr.flashBegin eraseSize packetCount packetSize offset).toRequest
    (fun s => s.restartSeq.buildPlain defaultParams .flashBegin
      (le32 eraseSize ++ le32 packetCount ++ le32 packetSize ++ le32 offset)) s

/-- FLASH_DATA (R232). -/
def execFlashData (payload : Bytes) (s : State) : Out :=
  execute defaultParams (Instr.flashData payload).toRequest (fun s => s.buildData defaultParams .flashData payload) s

/-- FLASH_END (R233): the flag word verbatim; SEQ is unchanged. -/
def execFlashEnd (stayInLoader : Word) (s : State) : Out :=
  execute defaultParams (Instr.flashEnd stayInLoader).toRequest (fun s => s.buildPlain defaultParams .flashEnd (le32 stayInLoader)) s

end Sys2Proof.Machine
end

