-- ==== Sys2Proof/Machine/Mem.lean ====
section
/-! DEFINITION. The RAM transfer: MEM_BEGIN (spec/42_commands.md R234), MEM_DATA (R235), MEM_END (R236). -/

namespace Sys2Proof.Machine

/-- MEM_BEGIN (R234): SEQ <- 0, then the four words verbatim. -/
def execMemBegin (totalSize packetCount packetSize offset : Word) (s : State) : Out :=
  execute defaultParams (Instr.memBegin totalSize packetCount packetSize offset).toRequest
    (fun s => s.restartSeq.buildPlain defaultParams .memBegin
      (le32 totalSize ++ le32 packetCount ++ le32 packetSize ++ le32 offset)) s

/-- MEM_DATA (R235). -/
def execMemData (payload : Bytes) (s : State) : Out :=
  execute defaultParams (Instr.memData payload).toRequest (fun s => s.buildData defaultParams .memData payload) s

/-- MEM_END (R236): the flag word and the entry point verbatim; SEQ is unchanged. -/
def execMemEnd (stayInLoader entryPoint : Word) (s : State) : Out :=
  execute defaultParams (Instr.memEnd stayInLoader entryPoint).toRequest
    (fun s => s.buildPlain defaultParams .memEnd (le32 stayInLoader ++ le32 entryPoint)) s

end Sys2Proof.Machine
end

