-- ==== Sys2Proof/Machine/Register.lean ====
section
/-! DEFINITION. The register commands: READ_REG (spec/42_commands.md R237) and WRITE_REG (R238). -/

namespace Sys2Proof.Machine

/-- READ_REG (R237): the address. Its success carries the value, since acceptance set WANT (R39, R240). -/
def execReadReg (address : Word) (s : State) : Out :=
  execute defaultParams (Instr.readReg address).toRequest (fun s => s.buildPlain defaultParams .readReg (le32 address)) s

/-- WRITE_REG (R238): the four words verbatim. -/
def execWriteReg (address value mask delay : Word) (s : State) : Out :=
  execute defaultParams (Instr.writeReg address value mask delay).toRequest
    (fun s => s.buildPlain defaultParams .writeReg (le32 address ++ le32 value ++ le32 mask ++ le32 delay)) s

end Sys2Proof.Machine
end

