-- ==== Sys2Proof/Machine/Session.lean ====
section
/-! DEFINITION. The commands of the device session: SYNC (spec/42_commands.md R230) and SPI_ATTACH (R239). -/

namespace Sys2Proof.Machine

/-- SYNC (R230): the body is the magic; SEQ is unchanged. -/
def execSync (s : State) : Out :=
  execute defaultParams Instr.sync.toRequest (fun s => s.buildPlain defaultParams .sync syncMagic) s

/-- SPI_ATTACH (R239): the configuration word, then a zero word whatever `req_arg[1]` holds. -/
def execSpiAttach (configuration : Word) (s : State) : Out :=
  execute defaultParams (Instr.spiAttach configuration).toRequest
    (fun s => s.buildPlain defaultParams .spiAttach (le32 configuration ++ le32 0)) s

end Sys2Proof.Machine
end

