-- ==== Sys2Proof/Machine/Dispatch.lean ====
section
/-! DEFINITION. One arm per command of spec/opcode_table.json. -/

namespace Sys2Proof.Machine

/-- One step of a command's execution. -/
def exec (i : Instr) (s : State) : Host.Outcome State Fault Refusal :=
  match i with
  | .sync => Sys2Proof.Machine.execSync s
  | .flashBegin eraseSize packetCount packetSize offset => Sys2Proof.Machine.execFlashBegin eraseSize packetCount packetSize offset s
  | .flashData payload => Sys2Proof.Machine.execFlashData payload s
  | .flashEnd stayInLoader => Sys2Proof.Machine.execFlashEnd stayInLoader s
  | .memBegin totalSize packetCount packetSize offset => Sys2Proof.Machine.execMemBegin totalSize packetCount packetSize offset s
  | .memData payload => Sys2Proof.Machine.execMemData payload s
  | .memEnd stayInLoader entryPoint => Sys2Proof.Machine.execMemEnd stayInLoader entryPoint s
  | .writeReg address value mask delay => Sys2Proof.Machine.execWriteReg address value mask delay s
  | .readReg address => Sys2Proof.Machine.execReadReg address s
  | .spiAttach configuration => Sys2Proof.Machine.execSpiAttach configuration s

end Sys2Proof.Machine
end

