-- ==== Sys2Proof/Machine/Fetch.lean ====
section
/-! DEFINITION. Where the next command comes from: the REQ port in IDLE (spec/10_state.md R39), and how a table word is put there. -/

namespace Sys2Proof.Machine

/-- The oldest request leaves the port. -/
def State.dropRequest (s : State) : State := { s with reqs := s.reqs.tail }

/-- IDLE (R38, R39): wait where nothing is presented; accept the oldest request; refuse one that names no command (R121). -/
def idleStep (s : State) : Out :=
  match s.reqs with
  | [] => .next s
  | r :: _ =>
    match decodeRequest r with
    | .ok _ => .next (s.dropRequest.accept r)
    | .rejected _ => .refused (.unknownCommand r.cmd)

/-- A request that names none of the ten commands: what stands for a word the table rejects. -/
def noCommand : Request := ⟨0x00, 0, 0, 0, 0, []⟩

/-- The request that presents a table word. -/
def requestOfWord (nbits w : Nat) : Request :=
  match tableRequest nbits w with
  | .ok r => r
  | .rejected _ => noCommand

/-- The RST schedule with no pulse at the next step. -/
def noPulseNext (rst : List Bool) : List Bool :=
  match rst with
  | [] => []
  | _ :: rest => false :: rest

/-- Put a request on REQ, first in line, and be ready to take it at the next step: IDLE, and no pulse then (log 9). -/
def State.present (s : State) (r : Request) : State :=
  { s with ph := .idle, reqs := r :: s.reqs, rstIn := noPulseNext s.rstIn }

end Sys2Proof.Machine
end

