-- ==== Sys2Proof/Machine/Step.lean ====
section
/-! DEFINITION. One step of the machine, and the place of the next command's word. -/

namespace Sys2Proof.Machine

/-- A step outside IDLE: one step of the command the latch holds. An id outside the ten cannot be latched (R39); a state that holds
one is refused (log 15). -/
def busyStep (s : State) : Out :=
  match s.current with
  | .ok i => exec i s
  | .rejected _ => .refused (.unknownCommand s.curCmd)

/-- A step without an RST pulse. -/
def runStep (s : State) : Out := if s.ph = .idle then idleStep s else busyStep s

/-- One step: an RST pulse resets the block (R450), whatever it is doing (R451); else the phase's work (R38). -/
def step (s : State) : Host.Outcome State Fault Refusal :=
  if s.rstNow then .next s.takeRst.blockReset else runStep s.takeRst

/-- The state with a table word presented on REQ for the next step (log 9, log 12). -/
def State.withFetchWord (s : State) (nbits w : Nat) : State := s.present (requestOfWord nbits w)

end Sys2Proof.Machine
end

