-- ==== Sys2Proof/Machine/Reference.lean ====
section
/-! DEFINITION. The spec's procedures read whole, on lists of the environment's answers: FrameSend (spec/40_slip_codec.md R152),
FrameReceive (R160), Await (43_response_matcher.md R300), Execute (42_commands.md R221), and a sequence of commands (20_memory.md R72).
The machine does not run them; they are what claims compare its runs with. Each answers none where the listed answers end first. -/

namespace Sys2Proof.Machine

/-! ## FrameSend -/

/-- What offering a row of wire bytes leaves: the TX events, the error that ended it, the answers left. -/
structure Sent where
  events : List PortEvent
  err : Option TransportErr
  rest : List TxAnswer
deriving DecidableEq, Repr

/-- Offer wire bytes in order until one fails (R152, R401). -/
def sendWire : Bytes → List TxAnswer → Option Sent
  | [], answers => some ⟨[], none, answers⟩
  | _ :: _, [] => none
  | w :: _, .err e :: answers => some ⟨[.tx w (.err e)], some e, answers⟩
  | w :: ws, .ok :: answers => (sendWire ws answers).map fun r => { r with events := .tx w .ok :: r.events }

/-! ## FrameReceive -/

/-- How a frame receive ended. -/
inductive FrameEnd where
  | good
  | transport (e : TransportErr)
  | badEscape
  | badTrailer
deriving DecidableEq, Repr

/-- What a frame receive leaves: the decoded bytes, its end, the answers used and the answers left. -/
structure Received where
  bytes : Bytes
  fin : FrameEnd
  used : List RxAnswer
  rest : List RxAnswer
deriving DecidableEq, Repr

/-- A receive that ends here, with nothing decoded. -/
def Received.stop (fin : FrameEnd) (used rest : List RxAnswer) : Received := ⟨[], fin, used, rest⟩

/-- A receive after some more answers used before it. -/
def Received.after (used : List RxAnswer) (r : Received) : Received := { r with used := used ++ r.used }

/-- A receive after one more decoded byte before it. -/
def Received.store (v : Byte) (r : Received) : Received := { r with bytes := v :: r.bytes }

/-- The trailer of a frame (R164). -/
def receiveTrail : List RxAnswer → Option Received
  | [] => none
  | .err e :: rest => some (.stop (.transport e) [.err e] rest)
  | .byte t :: rest => some (.stop (if t = slipEnd then .good else .badTrailer) [.byte t] rest)

/-- The decoded positions still to come, then the trailer (R160). -/
def receiveData (p : Params) : Nat → List RxAnswer → Option Received
  | 0, answers => receiveTrail answers
  | _ + 1, [] => none
  | _ + 1, .err e :: rest => some (.stop (.transport e) [.err e] rest)
  | n + 1, .byte b :: rest =>
    if b = slipEsc then
      match rest with
      | [] => none
      | .err e :: rest => some (.stop (.transport e) [.byte b, .err e] rest)
      | .byte c :: rest =>
        match unescape p c with
        | none => some (.stop .badEscape [.byte b, .byte c] rest)
        | some v => (receiveData p n rest).map fun r => (r.store v).after [.byte b, .byte c]
    else (receiveData p n rest).map fun r => (r.store b).after [.byte b]

/-- FrameReceive(n): the hunt, then the data (R160, R161). -/
def frameReceive (p : Params) (n : Nat) : List RxAnswer → Option Received
  | [] => none
  | .err e :: rest => some (.stop (.transport e) [.err e] rest)
  | .byte b :: rest =>
    if b = slipEnd then (receiveData p n rest).map (.after [.byte b])
    else (frameReceive p n rest).map (.after [.byte b])

/-! ## Await -/

/-- What a command's completion leaves: the port events up to RES, the result, the answers left. -/
structure Awaited where
  events : List PortEvent
  result : Result
  rest : List RxAnswer
deriving DecidableEq, Repr

/-- The completion with a result, after some port events. -/
def Awaited.finish (events : List PortEvent) (result : Result) (rest : List RxAnswer) : Awaited :=
  ⟨events ++ [.res result], result, rest⟩

/-- The end of a command on a matching frame (R303, R304). -/
def statusOf (want : Bool) (used : List PortEvent) (frame : Bytes) (rest : List RxAnswer) : Awaited :=
  if statusFails frame then .finish (used ++ [.diag (respCategory frame)]) (invalidResult .deviceFailure) rest
  else .finish used (okResult want frame) rest

/-- Await() (R300), for at most `fuel` frames, with `ndisc` frames discarded before. -/
def await (p : Params) (cmd : Byte) (want : Bool) : Nat → Word → List RxAnswer → Option Awaited
  | 0, _, _ => none
  | fuel + 1, ndisc, answers =>
    (frameReceive p p.respLen answers).bind fun r =>
      let used := r.used.map PortEvent.rx
      match r.fin with
      | .transport e => some (.finish used (transportResult e) r.rest)
      | .badEscape => some (.finish used (invalidResult .badEscape) r.rest)
      | .badTrailer => some (.finish used (invalidResult .badTrailer) r.rest)
      | .good =>
        if frameMatches r.bytes cmd then some (statusOf want used r.bytes r.rest)
        else if discardExceeds p.maxDiscard ndisc then some (.finish used (invalidResult .discardLimit) r.rest)
        else (await p cmd want fuel (ndisc + 1) r.rest).map fun a => { a with events := used ++ a.events }

/-! ## Execute -/

/-- SEQ after a command's BUILD (R223). -/
def seqAfter (i : Instr) (seq : Word) : Word :=
  if i.cmd.isBegin then 0 else if i.cmd.isData then seq + 1 else seq

/-- What a whole command leaves. -/
structure Executed where
  events : List PortEvent
  result : Result
  seq : Word
  txRest : List TxAnswer
  rxRest : List RxAnswer
deriving DecidableEq, Repr

/-- Execute() (R221): build the record from SEQ, send its frame, await the response. Enough fuel for every answer listed. -/
def executed (p : Params) (i : Instr) (seq : Word) (txAns : List TxAnswer) (rxAns : List RxAnswer) : Option Executed :=
  (sendWire (frame (encode i seq)) txAns).bind fun sent =>
    match sent.err with
    | some e => some ⟨sent.events ++ [.res (transportResult e)], transportResult e, seqAfter i seq, sent.rest, rxAns⟩
    | none =>
      (await p i.cmd.id (i.cmd = .readReg) (rxAns.length + 1) 0 rxAns).map fun a =>
        ⟨sent.events ++ a.events, a.result, seqAfter i seq, sent.rest, a.rest⟩

/-- What a sequence of commands leaves: all events, the results in order, SEQ, the answers left. -/
structure SessionEnd where
  events : List PortEvent
  results : List Result
  seq : Word
  txRest : List TxAnswer
  rxRest : List RxAnswer
deriving DecidableEq, Repr

/-- Commands one after the other, each from the SEQ and the streams the one before it left (R72, R407). -/
def session (p : Params) : List Instr → Word → List TxAnswer → List RxAnswer → Option SessionEnd
  | [], seq, txAns, rxAns => some ⟨[], [], seq, txAns, rxAns⟩
  | i :: is, seq, txAns, rxAns =>
    (executed p i seq txAns rxAns).bind fun x =>
      (session p is x.seq x.txRest x.rxRest).map fun y =>
        { y with events := x.events ++ y.events, results := x.result :: y.results }

/-- The sequence numbers the data commands of a list carry, in order (R223, R455). -/
def carriedSeqs : List Instr → Word → List Word
  | [], _ => []
  | i :: is, seq => (i.carriedSeq seq).toList ++ carriedSeqs is (seqAfter i seq)

end Sys2Proof.Machine
end

