-- ==== Sys2Proof/Safety.lean ====
section
/-! DEFINITION. What counts as a safe run, in the terms the claims use: the machine's invariant, the phases that follow one another
(spec/10_state.md R38), what an event is, and the states whose difference nothing shows (10_state.md section 6). -/

namespace Sys2Proof.Machine

/-- A number of steps of the machine, through the host's interface. -/
abbrev run (k : Nat) (s : State) : Out := Host.Core.run Sys2Proof.core k s

/-- The latch holds this command. -/
def State.Holds (s : State) (i : Instr) : Prop := s.current = .ok i

/-- The latch holds one of the ten commands, and WANT is set for READ_REG only (R34, R39). -/
def State.LatchOk (s : State) (c : Cmd) : Prop := s.curCmd = c.id ∧ s.want = decide (c = .readReg)

/-- BODY is a record of the command's length that begins with its direction and id (R35, R102). -/
def State.BodyOk (s : State) (c : Cmd) : Prop := s.body.length = hdrLen + c.psize ∧ s.body.take 2 = [dirReq, c.id]

/-- The invariant: RB has RESP_LEN bytes and RI is an index into it, full where a frame is complete (R37); PAY has L bytes (R31);
BODY has a record's length (R35); outside IDLE the latch holds a command and RES presents nothing; after BUILD BODY is the command's;
TX_BODY has a byte to send (R153); STATUS looks at a matching frame (R301). -/
structure State.Inv (s : State) : Prop where
  rb_length : s.rb.length = defaultParams.respLen
  ri_le : s.ri ≤ defaultParams.respLen
  ri_lt : s.ph = .rxData ∨ s.ph = .rxEsc → s.ri < defaultParams.respLen
  ri_full : s.ph = .rxTrail ∨ s.ph = .matching ∨ s.ph = .status → s.ri = defaultParams.respLen
  pay_length : s.pay.length = s.len.toNat
  body_length : 12 ≤ s.body.length ∧ s.body.length ≤ 44
  escp_follow : s.escp = none ∨ s.escp = some slipEscEnd ∨ s.escp = some slipEscEsc
  latch : s.ph ≠ .idle → ∃ c, s.LatchOk c ∧ (s.ph ≠ .build → s.BodyOk c)
  res_absent : s.ph ≠ .idle → s.res = none
  send_index : s.ph = .txBody → s.ti ≤ s.sendTotal ∧ (s.escp = none → s.ti < s.sendTotal)
  status_matched : s.ph = .status → frameMatches s.rb s.curCmd = true

/-- The phases that can follow a phase in one step without a pulse (R38); a busy phase ends in IDLE at a completion. -/
def Phase.next : Phase → List Phase
  | .idle => [.idle, .build]
  | .build => [.txLead]
  | .txLead => [.txBody, .idle]
  | .txBody => [.txBody, .txTrail, .idle]
  | .txTrail => [.rxHunt, .idle]
  | .rxHunt => [.rxHunt, .rxData, .idle]
  | .rxData => [.rxData, .rxEsc, .rxTrail, .idle]
  | .rxEsc => [.rxData, .rxTrail, .idle]
  | .rxTrail => [.matching, .idle]
  | .matching => [.status, .rxHunt, .idle]
  | .status => [.idle]

/-- FrameSend's phases. -/
def Phase.sends : Phase → Bool
  | .txLead | .txBody | .txTrail => true
  | .idle | .build | .rxHunt | .rxData | .rxEsc | .rxTrail | .matching | .status => false

/-- FrameReceive's phases. -/
def Phase.receives : Phase → Bool
  | .rxHunt | .rxData | .rxEsc | .rxTrail => true
  | .idle | .build | .txLead | .txBody | .txTrail | .matching | .status => false

/-- A port transfer: a TX or RX event. -/
def PortEvent.isTransfer : PortEvent → Bool
  | .tx _ _ | .rx _ => true
  | .diag _ | .res _ => false

/-- A RES event. -/
def PortEvent.isRes : PortEvent → Bool
  | .res _ => true
  | .tx _ _ | .rx _ | .diag _ => false

/-- Two IDLE states that agree in all but the per-command registers: the same SEQ, RES, streams and observation (10_state.md
section 6). -/
structure State.SameOutside (s t : State) : Prop where
  idle_left : s.ph = .idle
  idle_right : t.ph = .idle
  seq : s.seq = t.seq
  res : s.res = t.res
  reqs : s.reqs = t.reqs
  txAns : s.txAns = t.txAns
  rxAns : s.rxAns = t.rxAns
  payChg : s.payChg = t.payChg
  rstIn : s.rstIn = t.rstIn
  draws : s.draws = t.draws
  events : s.events = t.events

/-- Two outcomes agree in everything the block exposes: both next with the same phase, SEQ, RES and observation, or both the same
stop (R40). -/
def SameObserved : Out → Out → Prop
  | .next s, .next t => s.ph = t.ph ∧ s.seq = t.seq ∧ s.res = t.res ∧ s.events = t.events
  | .fault a, .fault b => a = b
  | .refused a, .refused b => a = b
  | _, _ => False

end Sys2Proof.Machine
end

