-- ==== Sys2Proof/Certificates/Slice0/Obligations.lean ====
section
/-! DEFINITION. The statements about SLIPF, from the numbered rules of spec/. Each docstring names its rules and, where the statement
rests on a choice of the model, its log entry. Bytes are written as the spec writes them. -/

open Sys2Proof Sys2Proof.Machine

/-! ## Encoding -/

/-- 30_encoding.md section 8: each row's header word, written out from its `encoding` pattern, decodes to its command; the `c`
bits of the two data rows are free. -/
def Obligations.HeaderWordsDecodeToTheirCommands : Prop :=
  decodeHeader 0b0000000000000000000000000000000000000000001001000000100000000000 = .ok .sync ∧
  decodeHeader 0b0000000000000000000000000000000000000000000100000000001000000000 = .ok .flashBegin ∧
  decodeHeader 0b0000000000000000000000001110101100000000000100000000001100000000 = .ok .flashData ∧
  decodeHeader 0b0000000000000000000000000000000000000000000001000000010000000000 = .ok .flashEnd ∧
  decodeHeader 0b0000000000000000000000000000000000000000000100000000010100000000 = .ok .memBegin ∧
  decodeHeader 0b0000000000000000000000001111010000000000000100000000011100000000 = .ok .memData ∧
  decodeHeader 0b0000000000000000000000000000000000000000000010000000011000000000 = .ok .memEnd ∧
  decodeHeader 0b0000000000000000000000000000000000000000000100000000100100000000 = .ok .writeReg ∧
  decodeHeader 0b0000000000000000000000000000000000000000000001000000101000000000 = .ok .readReg ∧
  decodeHeader 0b0000000000000000000000000000000000000000000010000000110100000000 = .ok .spiAttach

/-- 30_encoding.md section 8: no header word is an instance of two rows of the opcode table. -/
def Obligations.OpcodeTableRowsAreDisjoint : Prop :=
  ∀ r ∈ opcodeTable, ∀ q ∈ opcodeTable, ∀ w : HeaderWord, r.covers w = true → q.covers w = true → r = q

/-- R101, R32: a command put on REQ with its operands decodes to itself, at every operand. -/
def Obligations.RequestDecodesToItsCommand : Prop :=
  ∀ i : Instr, i.wf = true → decodeRequest i.toRequest = .ok i

/-- R102 to R114: the record of a command, read backwards (the model's reading, log 13), gives the command, every operand and the
sequence number. -/
def Obligations.RecordDecodesToItsCommand : Prop :=
  ∀ (i : Instr) (seq : Word), i.wf = true → decodeRecord (encode i seq) = .ok (i, i.carriedSeq seq)

/-- R102 to R116, R122: the only bytes that read as a command are that command's record (the reading is the model's, log 13). -/
def Obligations.RecordsAreCanonical : Prop :=
  ∀ (bs : Bytes) (i : Instr) (q : Option Word), decodeRecord bs = .ok (i, q) →
    i.wf = true ∧ ∃ seq, q = i.carriedSeq seq ∧ encode i seq = bs

/-- R116, which the spec derives from R102 to R114: the unescaped body of a command has HDR_LEN + PSIZE bytes, and of a data
command 24 + L. -/
def Obligations.RecordLengthIsHeaderFieldsPayload : Prop :=
  ∀ (i : Instr) (seq : Word),
    (i.cmd.isData = false → (encode i seq).length = hdrLen + i.cmd.psize) ∧
    (i.cmd.isData = true → (encode i seq).length = 24 + i.payload.length)

/-- R64 (derived by the spec), R102, R103: the header BUILD writes, read as one little-endian number, is direction, id, size and
checksum side by side, and the opcode table reads the command back from it. -/
def Obligations.BuiltHeaderIsTheTableWord : Prop :=
  ∀ (i : Instr) (s t : State), s.ph = .build → exec i s = .next t →
    ∀ (b0 b1 b2 b3 b4 b5 b6 b7 : Byte) (fields : Bytes), t.body = b0 :: b1 :: b2 :: b3 :: b4 :: b5 :: b6 :: b7 :: fields →
      ofLe64 b0 b1 b2 b3 b4 b5 b6 b7 =
        BitVec.setWidth 64 (0x00 : Byte) ||| (BitVec.setWidth 64 i.cmd.id <<< 8) ||| (BitVec.ofNat 64 i.cmd.psize <<< 16) |||
          ((if i.cmd.isData then BitVec.setWidth 64 t.chk else 0) <<< 32) ∧
      decodeHeader (ofLe64 b0 b1 b2 b3 b4 b5 b6 b7) = .ok i.cmd

/-! ## Requests and steps -/

/-- R39: in IDLE the oldest request is accepted: latched, NDISC cleared, on to BUILD, with SEQ, the streams, the observation and
the working registers as they were; while a command is in progress no request leaves the port. -/
def Obligations.RequestsAreAcceptedInIdleOnly : Prop :=
  (∀ (s : State) (r : Request) (rest : List Request) (c : Cmd),
    s.rstNow = false → s.ph = .idle → s.reqs = r :: rest → r.cmd = c.id → r.pay.length < 2 ^ 32 →
    ∃ t, step s = .next t ∧ t.curCmd = r.cmd ∧ t.want = decide (r.cmd = 0x0A) ∧ t.pay = r.pay ∧
      t.len.toNat = r.pay.length ∧ t.ndisc = 0 ∧ t.ph = .build ∧ t.reqs = rest ∧ t.seq = s.seq ∧ t.body = s.body ∧
      t.chk = s.chk ∧ t.ti = s.ti ∧ t.escp = s.escp ∧ t.rb = s.rb ∧ t.ri = s.ri ∧ t.txAns = s.txAns ∧ t.rxAns = s.rxAns ∧
      t.payChg = s.payChg ∧ t.events = s.events) ∧
  (∀ s t : State, s.rstNow = false → s.ph ≠ .idle → step s = .next t → t.reqs = s.reqs)

/-- The argument words are latched with the request, and RES presents nothing from acceptance on: the model's choices, log 8 and
log 10. -/
def Obligations.AcceptanceLatchesTheArguments : Prop :=
  ∀ (s : State) (r : Request) (rest : List Request) (c : Cmd),
    s.rstNow = false → s.ph = .idle → s.reqs = r :: rest → r.cmd = c.id →
    ∃ t, step s = .next t ∧ t.arg0 = r.arg0 ∧ t.arg1 = r.arg1 ∧ t.arg2 = r.arg2 ∧ t.arg3 = r.arg3 ∧ t.res = none

/-- R121: a request whose id is not one of the ten is refused; no state follows (how the refusal is shown is the model's choice,
log 15). The ten are 02 to 0A and 0D (R101). -/
def Obligations.UnknownCommandIdsAreRefused : Prop :=
  ∀ (s : State) (r : Request) (rest : List Request),
    s.rstNow = false → s.ph = .idle → s.reqs = r :: rest →
    r.cmd ∉ ([0x02, 0x03, 0x04, 0x05, 0x06, 0x07, 0x08, 0x09, 0x0A, 0x0D] : List Byte) →
    step s = .refused (.unknownCommand r.cmd)

/-- R38: in IDLE with nothing on REQ the block waits: a step that changes nothing (log 20). -/
def Obligations.IdleWaitsForARequest : Prop :=
  ∀ s : State, s.rstNow = false → s.ph = .idle → s.reqs = [] → step s = .next s.takeRst

/-- A step runs the decoded command: from REQ in IDLE, where a command's own request is first; from the latch in every other
phase. Acceptance makes the latch hold the command decoded from REQ, and a busy step keeps it there, also the step that completes
the command, after which R34 calls the latch unspecified. Which state exec runs from is the model's choice, log 9; that the latch
keeps its value at the completion is log 3. -/
def Obligations.StepRunsTheDecodedCommand : Prop :=
  (∀ (s : State) (i : Instr) (rest : List Request),
    s.rstNow = false → s.ph = .idle → i.wf = true → s.reqs = i.toRequest :: rest →
    step s = exec i { s.takeRst with reqs := rest }) ∧
  (∀ (s : State) (i : Instr), s.rstNow = false → s.ph ≠ .idle → s.Holds i → step s = exec i s.takeRst) ∧
  (∀ (s : State) (r : Request) (i : Instr), decodeRequest r = .ok i → (s.accept r).Holds i) ∧
  (∀ (i : Instr) (s t : State), s.ph ≠ .idle → s.Holds i → exec i s = .next t → t.Holds i)

/-- A table word is the next command: the step after `withFetchWord` accepts exactly the command the decoder reads (log 9, log
12). -/
def Obligations.FetchWordIsTheNextCommand : Prop :=
  ∀ (s : State) (nbits w : Nat) (i : Instr), decodeTableWord nbits w = some i →
    ∃ t, step (s.withFetchWord nbits w) = .next t ∧ t.ph = .build ∧ t.Holds i ∧ t.reqs = s.reqs ∧ t.seq = s.seq

/-! ## BUILD, command by command. Every register a conclusion does not name is as it was. -/

/-- R230, R105: SYNC's record is the fixed 44 bytes. -/
def Obligations.SyncBuildsTheMagicRecord : Prop :=
  ∀ s : State, s.ph = .build →
    exec .sync s = .next { s with
      body := [0x00, 0x08, 0x24, 0x00, 0x00, 0x00, 0x00, 0x00, 0x07, 0x07, 0x12, 0x20] ++ List.replicate 32 0x55
      ph := .txLead }

/-- R224, R106, R109: a begin command sets SEQ to 0 and puts its four words after the header, verbatim. -/
def Obligations.BeginCommandsRestartSeqAndBuild : Prop :=
  ∀ (s : State) (a b c d : Word), s.ph = .build →
    exec (.flashBegin a b c d) s = .next { s with
      seq := 0
      body := [0x00, 0x02, 0x10, 0x00, 0x00, 0x00, 0x00, 0x00] ++ le32 a ++ le32 b ++ le32 c ++ le32 d
      ph := .txLead } ∧
    exec (.memBegin a b c d) s = .next { s with
      seq := 0
      body := [0x00, 0x05, 0x10, 0x00, 0x00, 0x00, 0x00, 0x00] ++ le32 a ++ le32 b ++ le32 c ++ le32 d
      ph := .txLead }

/-- R225, R107, R110, R200, R103: with the payload held, a data command numbers its packet with SEQ, advances SEQ modulo 2^32, and
carries the payload's checksum, zero-extended, and its length. -/
def Obligations.DataCommandsNumberAndCheckThePacket : Prop :=
  ∀ (s : State) (payload : Bytes) (chk : Byte) (id : Byte) (i : Instr), s.ph = .build → s.payChg = [] →
    chk = payload.foldl (fun acc b => acc ^^^ b) 0xEF →
    (i = .flashData payload ∧ id = 0x03) ∨ (i = .memData payload ∧ id = 0x07) →
    exec i s = .next { s with
      seq := s.seq + 1
      chk := chk
      body := [0x00, id, 0x10, 0x00, chk, 0x00, 0x00, 0x00] ++ le32 (BitVec.ofNat 32 payload.length) ++ le32 s.seq ++
        [0x00, 0x00, 0x00, 0x00, 0x00, 0x00, 0x00, 0x00]
      ph := .txLead }

/-- R61, U1 (the list of changes is the model's, log 6): where the caller changes the payload, the checksum is that of whatever
bytes its reads find, one a byte, and TX_BODY sends whatever byte its own read finds. -/
def Obligations.ChangedPayloadGivesAnyByteAtEachRead : Prop :=
  (∀ (s : State) (payload found : Bytes) (later : List (Option Byte)) (i : Instr), s.ph = .build →
    i = .flashData payload ∨ i = .memData payload → found.length = payload.length →
    s.payChg = found.map some ++ later →
    ∃ t, exec i s = .next t ∧ t.chk = found.foldl (fun acc b => acc ^^^ b) 0xEF ∧ t.payChg = later) ∧
  (∀ (i : Instr) (s : State) (b : Byte) (later : List (Option Byte)) (answers : List TxAnswer), s.ph = .txBody →
    s.escp = none → s.body.length ≤ s.ti → s.ti < s.sendTotal → s.payChg = some b :: later → s.txAns = .ok :: answers →
    ∃ t, exec i s = .next t ∧ t.events = s.events ++ [.tx (if b = 0xC0 ∨ b = 0xDB then 0xDB else b) .ok] ∧
      t.escp = (if b = 0xC0 then some 0xDC else if b = 0xDB then some 0xDD else none) ∧ t.payChg = later)

/-- R108, R111: the end commands put their words after the header, verbatim, and leave SEQ. -/
def Obligations.EndCommandsBuildVerbatimWords : Prop :=
  ∀ (s : State) (a b : Word), s.ph = .build →
    exec (.flashEnd a) s = .next { s with
      body := [0x00, 0x04, 0x04, 0x00, 0x00, 0x00, 0x00, 0x00] ++ le32 a
      ph := .txLead } ∧
    exec (.memEnd a b) s = .next { s with
      body := [0x00, 0x06, 0x08, 0x00, 0x00, 0x00, 0x00, 0x00] ++ le32 a ++ le32 b
      ph := .txLead }

/-- R112, R113: the register commands put their words after the header, verbatim, and leave SEQ. -/
def Obligations.RegisterCommandsBuildVerbatimWords : Prop :=
  ∀ (s : State) (a b c d : Word), s.ph = .build →
    exec (.writeReg a b c d) s = .next { s with
      body := [0x00, 0x09, 0x10, 0x00, 0x00, 0x00, 0x00, 0x00] ++ le32 a ++ le32 b ++ le32 c ++ le32 d
      ph := .txLead } ∧
    exec (.readReg a) s = .next { s with
      body := [0x00, 0x0A, 0x04, 0x00, 0x00, 0x00, 0x00, 0x00] ++ le32 a
      ph := .txLead }

/-- R114: SPI_ATTACH sends its configuration word and a zero word, whatever the second argument word of the request. -/
def Obligations.SpiAttachBuildsAZeroSecondWord : Prop :=
  (∀ (s : State) (a : Word), s.ph = .build →
    exec (.spiAttach a) s = .next { s with
      body := [0x00, 0x0D, 0x08, 0x00, 0x00, 0x00, 0x00, 0x00] ++ le32 a ++ [0x00, 0x00, 0x00, 0x00]
      ph := .txLead }) ∧
  (∀ r : Request, r.cmd = 0x0D → decodeRequest r = .ok (.spiAttach r.arg0))

/-- R220, R223: at BUILD every command completes the builder: BODY and the payload make its record, SEQ takes its effect, and no
port event, latch, receive or stream changes. -/
def Obligations.BuilderWritesTheRecord : Prop :=
  ∀ (i : Instr) (s : State), s.ph = .build → s.payChg = [] →
    ∃ chk, exec i s = .next { s with
      body := i.header ++ i.fields s.seq
      seq := if i.cmd.isBegin then 0 else if i.cmd.isData then s.seq + 1 else s.seq
      chk := chk
      ph := .txLead } ∧
    (i.cmd.isData = false → chk = s.chk) ∧
    i.header ++ i.fields s.seq ++ i.payload = encode i s.seq

/-! ## SEQ -/

/-- R33, R223 to R225: without a reset, a step that changes SEQ is the BUILD of a begin command, which leaves 0, or of a data
command, which adds 1 modulo 2^32. -/
def Obligations.OnlyBeginAndDataBuildsChangeSeq : Prop :=
  ∀ s t : State, s.rstNow = false → step s = .next t → t.seq ≠ s.seq →
    s.ph = .build ∧ ∃ i, s.Holds i ∧ ((i.cmd.isBegin = true ∧ t.seq = 0) ∨ (i.cmd.isData = true ∧ t.seq = s.seq + 1))

/-- R33: nothing but the BUILD of a data command reads SEQ: another step with another SEQ goes to the same state but for SEQ. -/
def Obligations.OnlyDataBuildsReadSeq : Prop :=
  ∀ (i : Instr) (s t : State) (q : Word), (i.cmd.isData = true → s.ph ≠ .build) → exec i s = .next t →
    ∃ u, exec i { s with seq := q } = .next u ∧ { u with seq := t.seq } = t

/-- R225, R455, P4: after a begin command the data commands carry 0, 1, 2, and so on (modulo 2^32), whatever other commands but
begin commands stand between them. -/
def Obligations.DataPacketsAreNumberedFromTheBegin : Prop :=
  ∀ (start : Instr) (later : List Instr) (seq : Word), start.cmd.isBegin = true →
    (∀ i ∈ later, i.cmd.isBegin = false) →
    carriedSeqs (start :: later) seq =
      (List.range (later.filter (fun i => i.cmd.isData)).length).map (BitVec.ofNat 32)

/-! ## Checksum -/

/-- R203, which the spec derives from R200: the checksum does not depend on the order of the payload's bytes. -/
def Obligations.ChecksumIsOrderInsensitive : Prop :=
  (∀ a b : Bytes, a.Perm b → checksum a = checksum b) ∧ (∀ a b : Bytes, checksum (a ++ b) = checksum (b ++ a))

/-- R204, which the spec derives from R200, and R201: the algebra of the checksum. -/
def Obligations.ChecksumAlgebra : Prop :=
  (∀ a b : Bytes, checksum (a ++ b) = checksum a ^^^ checksum b ^^^ 0xEF) ∧
  (∀ (a : Bytes) (b : Byte), checksum (a ++ [b, b]) = checksum a) ∧
  (∀ b : Byte, checksum [b] = 0xEF ^^^ b ∧ (checksum [b] = 0x00 ↔ b = 0xEF)) ∧
  checksum [] = 0xEF

/-! ## Escape encoder -/

/-- R151: the escape function. -/
def Obligations.EscapeFunction : Prop :=
  (∀ b : Byte, esc1 b = if b = 0xC0 then [0xDB, 0xDC] else if b = 0xDB then [0xDB, 0xDD] else [b]) ∧
  esc [] = [] ∧ (∀ b s, esc (b :: s) = esc1 b ++ esc s) ∧ (∀ a b, esc (a ++ b) = esc a ++ esc b)

/-- R154, which the spec derives from R151: a body without END and ESC is framed without escaping. -/
def Obligations.FrameWithoutSpecialBytesIsVerbatim : Prop :=
  ∀ s : Bytes, (∀ b ∈ s, b ≠ 0xC0 ∧ b ≠ 0xDB) →
    frame s = [0xC0] ++ s ++ [0xC0] ∧ (frame s).length = s.length + 2

/-- R155, which the spec derives from R151: the length of an escaped body; no END inside a frame; every ESC inside is followed by
ESC_END or ESC_ESC. -/
def Obligations.EscapedBodyLengthAndShape : Prop :=
  ∀ s : Bytes,
    (esc s).length = s.length + s.count 0xC0 + s.count 0xDB ∧
    (0xC0 : Byte) ∉ esc s ∧
    (∀ before after : Bytes, esc s = before ++ 0xDB :: after →
      ∃ c rest, after = c :: rest ∧ (c = 0xDC ∨ c = 0xDD))

/-- R124, which the spec derives from R151: the wire length of a request's frame. -/
def Obligations.WireLengthCountsEscapes : Prop :=
  ∀ (i : Instr) (seq : Word),
    (frame (encode i seq)).length =
      2 + (encode i seq).length + (encode i seq).countP (fun b => b = 0xC0 ∨ b = 0xDB)

/-! ## FrameSend -/

/-- R153, R152: TX_LEAD and TX_TRAIL transmit END, and TX_BODY one wire byte of the body. TI is a count that does not wrap: log 7.
-/
def Obligations.TransmitPhasesOfferOneByte : Prop :=
  ∀ (i : Instr) (s : State) (answers : List TxAnswer), s.txAns = .ok :: answers →
    (s.ph = .txLead → exec i s = .next { s with
      ti := 0, escp := none, ph := .txBody, txAns := answers, events := s.events ++ [.tx 0xC0 .ok] }) ∧
    (s.ph = .txTrail → exec i s = .next { s with
      ph := .rxHunt, txAns := answers, events := s.events ++ [.tx 0xC0 .ok] }) ∧
    (∀ w, s.ph = .txBody → s.escp = some w → exec i s = .next { s with
      escp := none, ph := if s.ti = s.sendTotal then .txTrail else .txBody
      txAns := answers, events := s.events ++ [.tx w .ok] }) ∧
    (∀ b, s.ph = .txBody → s.escp = none → s.ti < s.sendTotal → s.payChg = [] → b = s.sendByte →
      exec i s = .next { s with
        escp := if b = 0xC0 then some 0xDC else if b = 0xDB then some 0xDD else none
        ti := s.ti + 1
        ph := if (b ≠ 0xC0 ∧ b ≠ 0xDB) ∧ s.ti + 1 = s.sendTotal then .txTrail else .txBody
        txAns := answers
        events := s.events ++ [.tx (if b = 0xC0 ∨ b = 0xDB then 0xDB else b) .ok] })

/-- R152, R100, C2: from TX_LEAD, with the payload held and the TX answers listed, the machine offers exactly the bytes of ONE
frame around the body and payload, in order, up to the first failure; a failure completes the command, and otherwise the receive
begins. Every register not named is as it was. That the per-command registers keep their values at the completion, where the spec
calls them unspecified, is the model's choice, log 3; that TI counts past 2^32 for a payload that long is log 7. -/
def Obligations.FrameSendTransmitsTheWholeFrame : Prop :=
  ∀ (i : Instr) (s : State) (sent : Sent), s.Inv → s.Holds i → s.ph = .txLead → s.rstIn = [] → s.payChg = [] →
    sendWire (frame (s.body ++ i.payload)) s.txAns = some sent →
    (sent.err = none → ∃ k, run k s = .next { s with
      ti := s.body.length + i.payload.length, escp := none, ph := .rxHunt, txAns := sent.rest
      events := s.events ++ sent.events }) ∧
    (∀ e, sent.err = some e → ∃ k ti escp, run k s = .next { s with
      ti := ti, escp := escp, ph := .idle, txAns := sent.rest, res := some (transportResult e)
      events := s.events ++ sent.events ++ [.res (transportResult e)] })

/-- R401: the transmit transfer that fails is the last of the command: the wire bytes before it are delivered, no later byte is
offered, nothing is received, and the command completes with the transport's error. That RB and RI keep their values at the
completion, where the spec calls them unspecified, is the model's choice, log 3; that TI counts past 2^32 for a payload that long
is log 7. -/
def Obligations.TransmitFailureEndsTheCommand : Prop :=
  ∀ (i : Instr) (s : State) (k : Nat) (e : TransportErr) (answers : List TxAnswer) (wire : Bytes) (w : Byte),
    s.Inv → s.Holds i → s.ph = .txLead → s.rstIn = [] → s.payChg = [] →
    wire = frame (s.body ++ i.payload) → wire[k]? = some w →
    s.txAns = List.replicate k .ok ++ .err e :: answers →
    ∃ t, run (k + 1) s = .next t ∧ t.ph = .idle ∧
      t.res = some ⟨.transportError, some e, none, .none⟩ ∧
      t.events = s.events ++ (wire.take k).map (fun b => PortEvent.tx b .ok) ++
        [.tx w (.err e), .res ⟨.transportError, some e, none, .none⟩] ∧
      t.txAns = answers ∧ t.rxAns = s.rxAns ∧ t.seq = s.seq ∧ t.rb = s.rb ∧ t.ri = s.ri

/-! ## FrameReceive -/

/-- R161, R162, R163, R164: what each receive phase does with a byte, END and ESC included; the byte is consumed in every case.
That the per-command registers keep their values at a completion is R407 and log 3; that an INVALID_RESPONSE presents no transport
error value is log 23. -/
def Obligations.ReceivePhasesTakeOneByte : Prop :=
  ∀ (i : Instr) (s : State) (b : Byte) (answers : List RxAnswer), s.rxAns = .byte b :: answers →
    (s.ph = .rxHunt → exec i s = .next (if b = 0xC0
      then { s with ri := 0, ph := .rxData, rxAns := answers, events := s.events ++ [.rx (.byte b)] }
      else { s with rxAns := answers, events := s.events ++ [.rx (.byte b)] })) ∧
    (s.ph = .rxData → exec i s = .next (if b = 0xDB
      then { s with ph := .rxEsc, rxAns := answers, events := s.events ++ [.rx (.byte b)] }
      else { s with
        rb := s.rb.set s.ri b, ri := s.ri + 1, ph := if s.ri + 1 < 10 then .rxData else .rxTrail
        rxAns := answers, events := s.events ++ [.rx (.byte b)] })) ∧
    (∀ v, s.ph = .rxEsc → b = 0xDC ∧ v = 0xC0 ∨ b = 0xDD ∧ v = 0xDB → exec i s = .next { s with
      rb := s.rb.set s.ri v, ri := s.ri + 1, ph := if s.ri + 1 < 10 then .rxData else .rxTrail
      rxAns := answers, events := s.events ++ [.rx (.byte b)] }) ∧
    (s.ph = .rxEsc → b ≠ 0xDC → b ≠ 0xDD → exec i s = .next { s with
      ph := .idle, res := some ⟨.invalidResponse, none, none, .badEscape⟩, rxAns := answers
      events := s.events ++ [.rx (.byte b), .res ⟨.invalidResponse, none, none, .badEscape⟩] }) ∧
    (s.ph = .rxTrail → b = 0xC0 → exec i s = .next { s with
      ph := .matching, rxAns := answers, events := s.events ++ [.rx (.byte b)] }) ∧
    (s.ph = .rxTrail → b ≠ 0xC0 → exec i s = .next { s with
      ph := .idle, res := some ⟨.invalidResponse, none, none, .badTrailer⟩, rxAns := answers
      events := s.events ++ [.rx (.byte b), .res ⟨.invalidResponse, none, none, .badTrailer⟩] })

/-- R165, R402: an RxRead answered err(e), in any receive phase, ends the command at once with the transport's error. That the
per-command registers keep their values is R407 and log 3. -/
def Obligations.ReceiveErrorEndsTheCommand : Prop :=
  ∀ (i : Instr) (s : State) (e : TransportErr) (answers : List RxAnswer), s.rxAns = .err e :: answers →
    s.ph = .rxHunt ∨ s.ph = .rxData ∨ s.ph = .rxEsc ∨ s.ph = .rxTrail →
    exec i s = .next { s with
      ph := .idle, res := some ⟨.transportError, some e, none, .none⟩, rxAns := answers
      events := s.events ++ [.rx (.err e), .res ⟨.transportError, some e, none, .none⟩] }

/-- R160: from RX_HUNT the machine receives what FrameReceive(RESP_LEN) does on the listed answers: the same bytes consumed, RB
and the outcome. Every register not named is as it was. That the per-command registers keep their values at a failing receive's
completion, where the spec calls them unspecified, is the model's choice, log 3; that an INVALID_RESPONSE presents no transport
error value is log 23. -/
def Obligations.MachineReceivesAsFrameReceive : Prop :=
  ∀ (i : Instr) (s : State) (r : Received), s.Holds i → s.ph = .rxHunt → s.rstIn = [] → s.rb.length = 10 →
    frameReceive defaultParams 10 s.rxAns = some r →
    ∃ k ri, run k s = .next (
      let t := { s with
        rb := r.bytes ++ s.rb.drop r.bytes.length, ri := ri, rxAns := r.rest, events := s.events ++ r.used.map PortEvent.rx }
      match r.fin with
      | .good => { t with ph := .matching }
      | .transport e => t.complete ⟨.transportError, some e, none, .none⟩
      | .badEscape => t.complete ⟨.invalidResponse, none, none, .badEscape⟩
      | .badTrailer => t.complete ⟨.invalidResponse, none, none, .badTrailer⟩) ∧
    (r.fin = .good → ri = 10 ∧ r.bytes.length = 10)

/-- R167, which the spec derives from R151, R160 and R163: a frame is received as the bytes it was made of and consumed exactly,
whatever follows it; and this holds with no other decoding of the pair DB DD. -/
def Obligations.FrameRoundTrip : Prop :=
  ∀ p : Params,
    (∀ (x : Bytes) (after : List RxAnswer), p.escEscDecode = 0xDB →
      frameReceive p x.length ((frame x).map .byte ++ after) = some ⟨x, .good, (frame x).map .byte, after⟩) ∧
    (p.escEscDecode ≠ 0xDB → ∃ x : Bytes,
      ∀ used after, frameReceive p x.length ((frame x).map .byte) ≠ some ⟨x, .good, used, after⟩)

/-- R161, R162, R166: bytes before the first END are discarded whatever they are, and an END at a decoded position is data. -/
def Obligations.HuntDiscardsAndEndIsData : Prop :=
  ∀ (p : Params) (junk x : Bytes) (after : List RxAnswer), 0xC0 ∉ junk → 0xDB ∉ x →
    frameReceive p x.length ((junk ++ 0xC0 :: x ++ [0xC0]).map .byte ++ after) =
      some ⟨x, .good, (junk ++ 0xC0 :: x ++ [0xC0]).map .byte, after⟩

/-- R462: on a stream whose next frame starts one END late, the frame's last byte is taken for the trailer: the command fails, or
decodes bytes that match no response. -/
def Obligations.LostAlignmentFailsTheTrailer : Prop :=
  ∀ (d0 d1 d2 d3 d4 d5 d6 d7 d8 d9 : Byte) (after : List RxAnswer),
    0xDB ∉ [d0, d1, d2, d3, d4, d5, d6, d7, d8] →
    frameReceive defaultParams 10 ([0xC0, 0xC0, d0, d1, d2, d3, d4, d5, d6, d7, d8, d9].map .byte ++ after) =
      some ⟨[0xC0, d0, d1, d2, d3, d4, d5, d6, d7, d8], if d9 = 0xC0 then .good else .badTrailer,
        [0xC0, 0xC0, d0, d1, d2, d3, d4, d5, d6, d7, d8, d9].map .byte, after⟩ ∧
    (∀ cmd, frameMatches [0xC0, d0, d1, d2, d3, d4, d5, d6, d7, d8] cmd = false)

/-! ## Await -/

/-- R301: MATCH accepts a frame whose direction is 01 and whose id is CUR_CMD, and discards every other, with no event and no
result. -/
def Obligations.MatchTestsDirectionAndId : Prop :=
  ∀ (i : Instr) (s : State) (d c : Byte), s.ph = .matching → s.rb[0]? = some d → s.rb[1]? = some c →
    exec i s = .next (if d = 0x01 ∧ c = s.curCmd then { s with ph := .status }
      else { s with ndisc := s.ndisc + 1, ph := .rxHunt })

/-- R302: with MAX_DISCARD = N the (N+1)-th discarded frame ends the command; unbounded, every frame that does not match is
discarded. That DISCARD_LIMIT presents no transport error value is the model's choice, log 23. -/
def Obligations.BoundedDiscardsEndTheCommand : Prop :=
  ∀ (p : Params) (cmd : Byte) (want : Bool) (stale : List Bytes) (fuel : Nat) (after : List RxAnswer),
    p.escEscDecode = 0xDB →
    (∀ x ∈ stale, x.length = p.respLen ∧ frameMatches x cmd = false) →
    (p.maxDiscard = none →
      await p cmd want (stale.length + fuel) 0 ((stale.flatMap frame).map .byte ++ after) =
        (await p cmd want fuel (BitVec.ofNat 32 stale.length) after).map fun a =>
          { a with events := (stale.flatMap frame).map (fun b => .rx (.byte b)) ++ a.events }) ∧
    (∀ n : Word, p.maxDiscard = some n → stale.length = n.toNat + 1 →
      await p cmd want (stale.length + fuel) 0 ((stale.flatMap frame).map .byte ++ after) =
        some ⟨(stale.flatMap frame).map (fun b => .rx (.byte b)) ++ [.res ⟨.invalidResponse, none, none, .discardLimit⟩],
          ⟨.invalidResponse, none, none, .discardLimit⟩, after⟩)

/-- R303, R304, R119, R240: STATUS on a matching frame. Status 00 completes OK, with the little-endian value where WANT is set;
every other status emits the error code's category and completes DEVICE_FAILURE. That the per-command registers keep their values
is R407 and log 3; that neither result presents a transport error value is log 23. -/
def Obligations.StatusByteDecidesTheResult : Prop :=
  ∀ (i : Instr) (s : State) (d c z0 z1 v0 v1 v2 v3 st er : Byte), s.ph = .status →
    s.rb = [d, c, z0, z1, v0, v1, v2, v3, st, er] →
    exec i s = .next (if st = 0x00
      then { s with
        ph := .idle
        res := some ⟨.ok, none, if s.want then some (v3 ++ v2 ++ v1 ++ v0) else none, .none⟩
        events := s.events ++ [.res ⟨.ok, none, if s.want then some (v3 ++ v2 ++ v1 ++ v0) else none, .none⟩] }
      else { s with
        ph := .idle
        res := some ⟨.invalidResponse, none, none, .deviceFailure⟩
        events := s.events ++ [.diag (category er), .res ⟨.invalidResponse, none, none, .deviceFailure⟩] })

/-- R120: the categories of the error codes. -/
def Obligations.ErrorCodeCategories : Prop :=
  category 0x05 = .invalidCrc ∧ category 0x06 = .invalidCommand ∧ category 0x07 = .commandFailed ∧
  category 0x08 = .flashWriteErr ∧ category 0x09 = .flashReadErr ∧ category 0x0A = .readLengthErr ∧
  category 0x0B = .deflateError ∧
  (∀ b : Byte, b ∉ ([0x05, 0x06, 0x07, 0x08, 0x09, 0x0A, 0x0B] : List Byte) → category b = .unknown)

/-- R300, R306: from RX_HUNT the machine awaits as Await() does on the listed answers: the same events up to one RES, the same
result, and IDLE. Only RB, RI, NDISC, PH, RES, the RX stream and the observation change; that the other per-command registers keep
their values at the completion, where the spec calls them unspecified, is the model's choice, log 3. -/
def Obligations.MachineAwaitsAsAwait : Prop :=
  ∀ (i : Instr) (s : State) (fuel : Nat) (a : Awaited), s.Holds i → s.ph = .rxHunt → s.rstIn = [] → s.rb.length = 10 →
    await defaultParams s.curCmd s.want fuel s.ndisc s.rxAns = some a →
    ∃ k rb ri ndisc, run k s = .next { s with
      rb := rb, ri := ri, ndisc := ndisc, ph := .idle, res := some a.result, rxAns := a.rest
      events := s.events ++ a.events }

/-! ## Whole commands -/

/-- R221, R2: from IDLE with a command first on REQ, the machine executes it as Execute() does on the listed answers: one record
from SEQ, one frame sent, then the response awaited; the same events, result and SEQ. -/
def Obligations.MachineExecutesEachCommand : Prop :=
  ∀ (i : Instr) (s : State) (later : List Request) (x : Executed), s.Inv → i.wf = true →
    s.ph = .idle → s.rstIn = [] → s.payChg = [] → s.reqs = i.toRequest :: later →
    executed defaultParams i s.seq s.txAns s.rxAns = some x →
    ∃ k t, run k s = .next t ∧ t.ph = .idle ∧ t.res = some x.result ∧ t.events = s.events ++ x.events ∧
      t.seq = x.seq ∧ t.txAns = x.txRest ∧ t.rxAns = x.rxRest ∧ t.reqs = later ∧ t.rstIn = [] ∧ t.payChg = [] ∧
      t.draws = s.draws

/-- R72, R407: commands presented one after the other run one after the other, each from the SEQ and the streams the one before it
left, whether that succeeded or not. -/
def Obligations.MachineRunsCommandsInSequence : Prop :=
  ∀ (is : List Instr) (s : State) (y : SessionEnd), s.Inv → (∀ i ∈ is, i.wf = true) →
    s.ph = .idle → s.rstIn = [] → s.payChg = [] → s.reqs = is.map Instr.toRequest →
    session defaultParams is s.seq s.txAns s.rxAns = some y →
    ∃ k t, run k s = .next t ∧ t.ph = .idle ∧ t.events = s.events ++ y.events ∧ t.seq = y.seq ∧
      t.txAns = y.txRest ∧ t.rxAns = y.rxRest ∧ t.reqs = [] ∧
      (t.events.filter PortEvent.isRes) = (s.events.filter PortEvent.isRes) ++ y.results.map .res

/-- R221, R303, R304, R240: every command completes when the transport takes its frame and the device answers with a matching
frame: OK for status 00, with the value for READ_REG and without one for the other nine; DEVICE_FAILURE for any other status, with
nothing of the error code on RES. The wire carries exactly the command's frame. That neither result presents a transport error
value is the model's choice, log 23. -/
def Obligations.MatchingFrameCompletesTheCommand : Prop :=
  ∀ (i : Instr) (s : State) (later : List Request) (z0 z1 v0 v1 v2 v3 st er : Byte) (wire resp : Bytes)
    (txLater : List TxAnswer) (rxLater : List RxAnswer) (r : Result), s.Inv → i.wf = true →
    s.ph = .idle → s.rstIn = [] → s.payChg = [] → s.reqs = i.toRequest :: later →
    wire = frame (encode i s.seq) → resp = frame [0x01, i.cmd.id, z0, z1, v0, v1, v2, v3, st, er] →
    s.txAns = List.replicate wire.length .ok ++ txLater → s.rxAns = resp.map .byte ++ rxLater →
    r = (if st = 0x00 then ⟨.ok, none, if i.cmd = .readReg then some (v3 ++ v2 ++ v1 ++ v0) else none, .none⟩
      else ⟨.invalidResponse, none, none, .deviceFailure⟩) →
    ∃ k t, run k s = .next t ∧ t.ph = .idle ∧ t.res = some r ∧
      t.seq = (if i.cmd.isBegin then 0 else if i.cmd.isData then s.seq + 1 else s.seq) ∧
      t.events = s.events ++ wire.map (fun b => .tx b .ok) ++ resp.map (fun b => .rx (.byte b)) ++
        (if st = 0x00 then [] else [.diag (category er)]) ++ [.res r] ∧
      t.txAns = txLater ∧ t.rxAns = rxLater ∧ t.reqs = later

/-! ## Whole machine -/

/-- R450: the state after reset meets the invariant. The values of the per-command registers in it are the model's (log 2). -/
def Obligations.ResetMeetsTheInvariant : Prop :=
  State.reset.Inv ∧ State.reset.ph = .idle ∧ State.reset.seq = 0 ∧ State.reset.res = none

/-- R34, R35, R37, R38, R153, R301: every step, in every phase and with a reset pulse, keeps the invariant. Its clause that RES
presents nothing outside IDLE is the model's choice, log 10. -/
def Obligations.StepKeepsTheInvariant : Prop :=
  ∀ s t : State, s.Inv → step s = .next t → t.Inv

/-- R405, R403: the block never gets stuck: from a state that meets the invariant a step goes on, or refuses a request that names
no command, in IDLE; the refusal as an outcome is log 15. -/
def Obligations.NoFailureIsAStuckCondition : Prop :=
  ∀ s : State, s.Inv → (∃ t, step s = .next t) ∨
    (s.ph = .idle ∧ ∃ r rest, s.reqs = r :: rest ∧ (∀ c : Cmd, c.id ≠ r.cmd) ∧ step s = .refused (.unknownCommand r.cmd))

/-- R450, R451 (the schedule of pulses is the model's, log 5): an RST pulse, in any phase, gives IDLE and SEQ_RESET with no RES
and no port event; the streams stay where they are, and the block then takes the next request. -/
def Obligations.ResetPulseAbandonsTheCommand : Prop :=
  ∀ (s : State) (later : List Bool), s.rstIn = true :: later →
    ∃ t, step s = .next t ∧ t.ph = .idle ∧ t.seq = 0 ∧ t.res = none ∧ t.events = s.events ∧
      t.txAns = s.txAns ∧ t.rxAns = s.rxAns ∧ t.reqs = s.reqs ∧
      (∀ (r : Request) (rest : List Request) (c : Cmd), t.reqs = r :: rest → r.cmd = c.id → t.rstNow = false →
        ∃ u, step t = .next u ∧ u.ph = .build ∧ u.curCmd = r.cmd ∧ u.reqs = rest)

/-- R38: the phases follow one another in the order of the table, and a busy phase ends in IDLE. -/
def Obligations.PhasesFollowTheTable : Prop :=
  ∀ s t : State, s.rstNow = false → step s = .next t → t.ph ∈ s.ph.next

/-- R406, R71, R40: a step adds to the observation at most one transfer, a TX only in FrameSend's phases and an RX only in
FrameReceive's, and a RES exactly when a command completes. -/
def Obligations.EachStepMakesAtMostOneTransfer : Prop :=
  ∀ s t : State, s.rstNow = false → step s = .next t →
    ∃ es, t.events = s.events ++ es ∧
      (es.filter PortEvent.isTransfer).length ≤ 1 ∧
      (∀ b a, .tx b a ∈ es → s.ph.sends = true) ∧
      (∀ a, .rx a ∈ es → s.ph.receives = true) ∧
      (es.filter PortEvent.isRes).length = if s.ph ≠ .idle ∧ t.ph = .idle then 1 else 0

/-- R407 (derived by the spec; for the per-command registers log 3): every completion presents RES, goes to IDLE and saves or
restores nothing else: the latch, BODY, CHK, SEQ and the requests are as they were. -/
def Obligations.CompletionSavesNothingElse : Prop :=
  ∀ s t : State, s.rstNow = false → step s = .next t → s.ph ≠ .idle → t.ph = .idle →
    ∃ r es, t.res = some r ∧ t.events = s.events ++ es ++ [.res r] ∧ t.seq = s.seq ∧ t.curCmd = s.curCmd ∧
      t.want = s.want ∧ t.arg0 = s.arg0 ∧ t.arg1 = s.arg1 ∧ t.arg2 = s.arg2 ∧ t.arg3 = s.arg3 ∧ t.pay = s.pay ∧
      t.len = s.len ∧ t.body = s.body ∧ t.chk = s.chk ∧ t.rb = s.rb ∧ t.ri = s.ri ∧ t.reqs = s.reqs

/-- R240: only READ_REG presents a value, and only with OK: the value field of the frame received. -/
def Obligations.OnlyReadRegPresentsAValue : Prop :=
  ∀ (s t : State) (r : Result), s.Inv → s.rstNow = false → step s = .next t → s.ph ≠ .idle → t.res = some r →
    (r.value.isSome = true ↔ s.curCmd = 0x0A ∧ r.kind = .ok) ∧ (∀ v, r.value = some v → v = rdLe32 s.rb 4)

/-- R406: in an escape pair a transport error on the follow byte is the one reported, and a bad follow byte is reported without a
look at the trailer. -/
def Obligations.FirstFailureIsReported : Prop :=
  ∀ (n : Nat) (x : Bytes) (bad : Byte) (e : TransportErr) (after : List RxAnswer), x.length < n →
    bad ≠ 0xDC → bad ≠ 0xDD →
    frameReceive defaultParams n ((0xC0 :: esc x ++ [0xDB]).map .byte ++ .err e :: after) =
      some ⟨x, .transport e, (0xC0 :: esc x ++ [0xDB]).map .byte ++ [.err e], after⟩ ∧
    frameReceive defaultParams n ((0xC0 :: esc x ++ [0xDB, bad]).map .byte ++ after) =
      some ⟨x, .badEscape, (0xC0 :: esc x ++ [0xDB, bad]).map .byte, after⟩

/-- 10_state.md section 6, U2: no value of a per-command register at IDLE is ever observable: two IDLE states that agree in SEQ,
RES, the streams and the observation, with RB of its length, agree in them after any number of steps. -/
def Obligations.UnspecifiedRegistersAreUnobservable : Prop :=
  ∀ (s t : State) (k : Nat), s.SameOutside t → s.rb.length = 10 → t.rb.length = 10 → SameObserved (run k s) (run k t)
end

