-- ==== Sys2Proof/Laws/Encoding.lean ====
section
/-! SUPPORT. Byte order, ids and the decoders' small steps: what each splitter of a record takes off its front, both ways. -/

namespace Sys2Proof

/-! ## Ids -/

theorem Cmd.ofId?_id (c : Cmd) : Cmd.ofId? c.id = some c := by cases c <;> decide

theorem Cmd.ofId?_eq_some {b : Byte} {c : Cmd} (h : Cmd.ofId? b = some c) : b = c.id := by
  simpa [eq_comm] using List.find?_some h

theorem Cmd.ofId?_eq_none {b : Byte} (h : Cmd.ofId? b = none) (c : Cmd) : c.id ≠ b := by
  rintro rfl
  simp [Cmd.ofId?_id] at h

/-! ## Words and their bytes -/

/-- The u32 of the four bytes of a u32 is it. -/
theorem ofLe32_le32 (v : Word) :
    ofLe32 (v.extractLsb' 0 8) (v.extractLsb' 8 8) (v.extractLsb' 16 8) (v.extractLsb' 24 8) = v := by
  apply BitVec.eq_of_getLsbD_eq
  intro k hk
  simp only [ofLe32, BitVec.getLsbD_append, BitVec.getLsbD_extractLsb']
  split
  · simp [*]
  · split
    · simp only [show k - 8 < 8 by omega, decide_true, Bool.true_and]; congr 1; omega
    · split
      · simp only [show k - 8 - 8 < 8 by omega, decide_true, Bool.true_and]; congr 1; omega
      · simp only [show k - 8 - 8 - 8 < 8 by omega, decide_true, Bool.true_and]; congr 1; omega

/-- The four bytes of the u32 of four bytes are they. -/
theorem le32_ofLe32 (a b c d : Byte) : le32 (ofLe32 a b c d) = [a, b, c, d] := by
  simp only [le32, List.cons.injEq, and_true]
  refine ⟨?_, ?_, ?_, ?_⟩ <;> (apply BitVec.eq_of_getLsbD_eq; intro k hk) <;>
    simp only [ofLe32, BitVec.getLsbD_append, BitVec.getLsbD_extractLsb', hk, decide_true, Bool.true_and]
  · simp [hk]
  · simp [show 8 + k - 8 = k by omega, show ¬ 8 + k < 8 by omega, hk]
  · simp [show 16 + k - 8 - 8 = k by omega, show ¬ 16 + k < 8 by omega, show ¬ 16 + k - 8 < 8 by omega, hk]
  · simp [show 24 + k - 8 - 8 - 8 = k by omega, show ¬ 24 + k < 8 by omega, show ¬ 24 + k - 8 < 8 by omega,
      show ¬ 24 + k - 8 - 8 < 8 by omega, hk]

/-! ## Decoders -/

@[simp] theorem Decoded.bind_ok {α β : Type} (a : α) (f : α → Decoded β) : (Decoded.ok a).bind f = f a := rfl

@[simp] theorem Decoded.bind_rejected {α β : Type} (why : DecodeReject) (f : α → Decoded β) :
    (Decoded.rejected why).bind f = .rejected why := rfl

theorem Decoded.bind_eq_ok {α β : Type} {d : Decoded α} {f : α → Decoded β} {b : β} :
    d.bind f = .ok b ↔ ∃ a, d = .ok a ∧ f a = .ok b := by
  cases d <;> simp

theorem takeWord_le32 (v : Word) (rest : Bytes) : takeWord (le32 v ++ rest) = .ok (v, rest) := by
  simp [le32, takeWord, ofLe32_le32]

theorem takeWord_eq_ok {bs rest : Bytes} {v : Word} (h : takeWord bs = .ok (v, rest)) : bs = le32 v ++ rest := by
  unfold takeWord at h
  split at h
  · cases h; simp [le32_ofLe32]
  · cases h

theorem takeEnd_eq_ok {bs : Bytes} {i j : Instr} {q : Option Word} (h : takeEnd bs j = .ok (i, q)) :
    bs = [] ∧ i = j ∧ q = none := by
  unfold takeEnd at h
  split at h <;> simp_all

end Sys2Proof
end

