-- ==== Sys2Proof/Laws/State.lean ====
section
/-! SUPPORT. One lemma a field for each named update of the state, so that no proof unfolds one. -/

namespace Sys2Proof.Machine

variable (s : State)

/-! ### State.emit -/

@[simp] theorem State.emit_seq (e : PortEvent) : (s.emit e).seq = s.seq := rfl
@[simp] theorem State.emit_ph (e : PortEvent) : (s.emit e).ph = s.ph := rfl
@[simp] theorem State.emit_curCmd (e : PortEvent) : (s.emit e).curCmd = s.curCmd := rfl
@[simp] theorem State.emit_want (e : PortEvent) : (s.emit e).want = s.want := rfl
@[simp] theorem State.emit_arg0 (e : PortEvent) : (s.emit e).arg0 = s.arg0 := rfl
@[simp] theorem State.emit_arg1 (e : PortEvent) : (s.emit e).arg1 = s.arg1 := rfl
@[simp] theorem State.emit_arg2 (e : PortEvent) : (s.emit e).arg2 = s.arg2 := rfl
@[simp] theorem State.emit_arg3 (e : PortEvent) : (s.emit e).arg3 = s.arg3 := rfl
@[simp] theorem State.emit_pay (e : PortEvent) : (s.emit e).pay = s.pay := rfl
@[simp] theorem State.emit_len (e : PortEvent) : (s.emit e).len = s.len := rfl
@[simp] theorem State.emit_body (e : PortEvent) : (s.emit e).body = s.body := rfl
@[simp] theorem State.emit_chk (e : PortEvent) : (s.emit e).chk = s.chk := rfl
@[simp] theorem State.emit_ti (e : PortEvent) : (s.emit e).ti = s.ti := rfl
@[simp] theorem State.emit_escp (e : PortEvent) : (s.emit e).escp = s.escp := rfl
@[simp] theorem State.emit_rb (e : PortEvent) : (s.emit e).rb = s.rb := rfl
@[simp] theorem State.emit_ri (e : PortEvent) : (s.emit e).ri = s.ri := rfl
@[simp] theorem State.emit_ndisc (e : PortEvent) : (s.emit e).ndisc = s.ndisc := rfl
@[simp] theorem State.emit_res (e : PortEvent) : (s.emit e).res = s.res := rfl
@[simp] theorem State.emit_reqs (e : PortEvent) : (s.emit e).reqs = s.reqs := rfl
@[simp] theorem State.emit_txAns (e : PortEvent) : (s.emit e).txAns = s.txAns := rfl
@[simp] theorem State.emit_rxAns (e : PortEvent) : (s.emit e).rxAns = s.rxAns := rfl
@[simp] theorem State.emit_payChg (e : PortEvent) : (s.emit e).payChg = s.payChg := rfl
@[simp] theorem State.emit_rstIn (e : PortEvent) : (s.emit e).rstIn = s.rstIn := rfl
@[simp] theorem State.emit_draws (e : PortEvent) : (s.emit e).draws = s.draws := rfl
@[simp] theorem State.emit_events (e : PortEvent) : (s.emit e).events = s.events ++ [e] := rfl

/-! ### State.afterTx -/

@[simp] theorem State.afterTx_seq (b : Byte) : (s.afterTx b).seq = s.seq := rfl
@[simp] theorem State.afterTx_ph (b : Byte) : (s.afterTx b).ph = s.ph := rfl
@[simp] theorem State.afterTx_curCmd (b : Byte) : (s.afterTx b).curCmd = s.curCmd := rfl
@[simp] theorem State.afterTx_want (b : Byte) : (s.afterTx b).want = s.want := rfl
@[simp] theorem State.afterTx_arg0 (b : Byte) : (s.afterTx b).arg0 = s.arg0 := rfl
@[simp] theorem State.afterTx_arg1 (b : Byte) : (s.afterTx b).arg1 = s.arg1 := rfl
@[simp] theorem State.afterTx_arg2 (b : Byte) : (s.afterTx b).arg2 = s.arg2 := rfl
@[simp] theorem State.afterTx_arg3 (b : Byte) : (s.afterTx b).arg3 = s.arg3 := rfl
@[simp] theorem State.afterTx_pay (b : Byte) : (s.afterTx b).pay = s.pay := rfl
@[simp] theorem State.afterTx_len (b : Byte) : (s.afterTx b).len = s.len := rfl
@[simp] theorem State.afterTx_body (b : Byte) : (s.afterTx b).body = s.body := rfl
@[simp] theorem State.afterTx_chk (b : Byte) : (s.afterTx b).chk = s.chk := rfl
@[simp] theorem State.afterTx_ti (b : Byte) : (s.afterTx b).ti = s.ti := rfl
@[simp] theorem State.afterTx_escp (b : Byte) : (s.afterTx b).escp = s.escp := rfl
@[simp] theorem State.afterTx_rb (b : Byte) : (s.afterTx b).rb = s.rb := rfl
@[simp] theorem State.afterTx_ri (b : Byte) : (s.afterTx b).ri = s.ri := rfl
@[simp] theorem State.afterTx_ndisc (b : Byte) : (s.afterTx b).ndisc = s.ndisc := rfl
@[simp] theorem State.afterTx_res (b : Byte) : (s.afterTx b).res = s.res := rfl
@[simp] theorem State.afterTx_reqs (b : Byte) : (s.afterTx b).reqs = s.reqs := rfl
@[simp] theorem State.afterTx_txAns (b : Byte) : (s.afterTx b).txAns = s.txAns.tail := rfl
@[simp] theorem State.afterTx_rxAns (b : Byte) : (s.afterTx b).rxAns = s.rxAns := rfl
@[simp] theorem State.afterTx_payChg (b : Byte) : (s.afterTx b).payChg = s.payChg := rfl
@[simp] theorem State.afterTx_rstIn (b : Byte) : (s.afterTx b).rstIn = s.rstIn := rfl
@[simp] theorem State.afterTx_draws (b : Byte) : (s.afterTx b).draws = if s.txAns.isEmpty then s.draws + 1 else s.draws := rfl
@[simp] theorem State.afterTx_events (b : Byte) : (s.afterTx b).events = s.events ++ [.tx b s.txAnswer] := rfl

/-! ### State.afterRx -/

@[simp] theorem State.afterRx_seq : (s.afterRx).seq = s.seq := rfl
@[simp] theorem State.afterRx_ph : (s.afterRx).ph = s.ph := rfl
@[simp] theorem State.afterRx_curCmd : (s.afterRx).curCmd = s.curCmd := rfl
@[simp] theorem State.afterRx_want : (s.afterRx).want = s.want := rfl
@[simp] theorem State.afterRx_arg0 : (s.afterRx).arg0 = s.arg0 := rfl
@[simp] theorem State.afterRx_arg1 : (s.afterRx).arg1 = s.arg1 := rfl
@[simp] theorem State.afterRx_arg2 : (s.afterRx).arg2 = s.arg2 := rfl
@[simp] theorem State.afterRx_arg3 : (s.afterRx).arg3 = s.arg3 := rfl
@[simp] theorem State.afterRx_pay : (s.afterRx).pay = s.pay := rfl
@[simp] theorem State.afterRx_len : (s.afterRx).len = s.len := rfl
@[simp] theorem State.afterRx_body : (s.afterRx).body = s.body := rfl
@[simp] theorem State.afterRx_chk : (s.afterRx).chk = s.chk := rfl
@[simp] theorem State.afterRx_ti : (s.afterRx).ti = s.ti := rfl
@[simp] theorem State.afterRx_escp : (s.afterRx).escp = s.escp := rfl
@[simp] theorem State.afterRx_rb : (s.afterRx).rb = s.rb := rfl
@[simp] theorem State.afterRx_ri : (s.afterRx).ri = s.ri := rfl
@[simp] theorem State.afterRx_ndisc : (s.afterRx).ndisc = s.ndisc := rfl
@[simp] theorem State.afterRx_res : (s.afterRx).res = s.res := rfl
@[simp] theorem State.afterRx_reqs : (s.afterRx).reqs = s.reqs := rfl
@[simp] theorem State.afterRx_txAns : (s.afterRx).txAns = s.txAns := rfl
@[simp] theorem State.afterRx_rxAns : (s.afterRx).rxAns = s.rxAns.tail := rfl
@[simp] theorem State.afterRx_payChg : (s.afterRx).payChg = s.payChg := rfl
@[simp] theorem State.afterRx_rstIn : (s.afterRx).rstIn = s.rstIn := rfl
@[simp] theorem State.afterRx_draws : (s.afterRx).draws = if s.rxAns.isEmpty then s.draws + 1 else s.draws := rfl
@[simp] theorem State.afterRx_events : (s.afterRx).events = s.events ++ [.rx s.rxAnswer] := rfl

/-! ### State.complete -/

@[simp] theorem State.complete_seq (r : Result) : (s.complete r).seq = s.seq := rfl
@[simp] theorem State.complete_ph (r : Result) : (s.complete r).ph = .idle := rfl
@[simp] theorem State.complete_curCmd (r : Result) : (s.complete r).curCmd = s.curCmd := rfl
@[simp] theorem State.complete_want (r : Result) : (s.complete r).want = s.want := rfl
@[simp] theorem State.complete_arg0 (r : Result) : (s.complete r).arg0 = s.arg0 := rfl
@[simp] theorem State.complete_arg1 (r : Result) : (s.complete r).arg1 = s.arg1 := rfl
@[simp] theorem State.complete_arg2 (r : Result) : (s.complete r).arg2 = s.arg2 := rfl
@[simp] theorem State.complete_arg3 (r : Result) : (s.complete r).arg3 = s.arg3 := rfl
@[simp] theorem State.complete_pay (r : Result) : (s.complete r).pay = s.pay := rfl
@[simp] theorem State.complete_len (r : Result) : (s.complete r).len = s.len := rfl
@[simp] theorem State.complete_body (r : Result) : (s.complete r).body = s.body := rfl
@[simp] theorem State.complete_chk (r : Result) : (s.complete r).chk = s.chk := rfl
@[simp] theorem State.complete_ti (r : Result) : (s.complete r).ti = s.ti := rfl
@[simp] theorem State.complete_escp (r : Result) : (s.complete r).escp = s.escp := rfl
@[simp] theorem State.complete_rb (r : Result) : (s.complete r).rb = s.rb := rfl
@[simp] theorem State.complete_ri (r : Result) : (s.complete r).ri = s.ri := rfl
@[simp] theorem State.complete_ndisc (r : Result) : (s.complete r).ndisc = s.ndisc := rfl
@[simp] theorem State.complete_res (r : Result) : (s.complete r).res = some r := rfl
@[simp] theorem State.complete_reqs (r : Result) : (s.complete r).reqs = s.reqs := rfl
@[simp] theorem State.complete_txAns (r : Result) : (s.complete r).txAns = s.txAns := rfl
@[simp] theorem State.complete_rxAns (r : Result) : (s.complete r).rxAns = s.rxAns := rfl
@[simp] theorem State.complete_payChg (r : Result) : (s.complete r).payChg = s.payChg := rfl
@[simp] theorem State.complete_rstIn (r : Result) : (s.complete r).rstIn = s.rstIn := rfl
@[simp] theorem State.complete_draws (r : Result) : (s.complete r).draws = s.draws := rfl
@[simp] theorem State.complete_events (r : Result) : (s.complete r).events = s.events ++ [.res r] := rfl

/-! ### State.accept -/

@[simp] theorem State.accept_seq (r : Request) : (s.accept r).seq = s.seq := rfl
@[simp] theorem State.accept_ph (r : Request) : (s.accept r).ph = .build := rfl
@[simp] theorem State.accept_curCmd (r : Request) : (s.accept r).curCmd = r.cmd := rfl
@[simp] theorem State.accept_want (r : Request) : (s.accept r).want = decide (r.cmd = Cmd.readReg.id) := rfl
@[simp] theorem State.accept_arg0 (r : Request) : (s.accept r).arg0 = r.arg0 := rfl
@[simp] theorem State.accept_arg1 (r : Request) : (s.accept r).arg1 = r.arg1 := rfl
@[simp] theorem State.accept_arg2 (r : Request) : (s.accept r).arg2 = r.arg2 := rfl
@[simp] theorem State.accept_arg3 (r : Request) : (s.accept r).arg3 = r.arg3 := rfl
@[simp] theorem State.accept_pay (r : Request) : (s.accept r).pay = r.payload := rfl
@[simp] theorem State.accept_len (r : Request) : (s.accept r).len = r.len := rfl
@[simp] theorem State.accept_body (r : Request) : (s.accept r).body = s.body := rfl
@[simp] theorem State.accept_chk (r : Request) : (s.accept r).chk = s.chk := rfl
@[simp] theorem State.accept_ti (r : Request) : (s.accept r).ti = s.ti := rfl
@[simp] theorem State.accept_escp (r : Request) : (s.accept r).escp = s.escp := rfl
@[simp] theorem State.accept_rb (r : Request) : (s.accept r).rb = s.rb := rfl
@[simp] theorem State.accept_ri (r : Request) : (s.accept r).ri = s.ri := rfl
@[simp] theorem State.accept_ndisc (r : Request) : (s.accept r).ndisc = 0 := rfl
@[simp] theorem State.accept_res (r : Request) : (s.accept r).res = none := rfl
@[simp] theorem State.accept_reqs (r : Request) : (s.accept r).reqs = s.reqs := rfl
@[simp] theorem State.accept_txAns (r : Request) : (s.accept r).txAns = s.txAns := rfl
@[simp] theorem State.accept_rxAns (r : Request) : (s.accept r).rxAns = s.rxAns := rfl
@[simp] theorem State.accept_payChg (r : Request) : (s.accept r).payChg = s.payChg := rfl
@[simp] theorem State.accept_rstIn (r : Request) : (s.accept r).rstIn = s.rstIn := rfl
@[simp] theorem State.accept_draws (r : Request) : (s.accept r).draws = s.draws := rfl
@[simp] theorem State.accept_events (r : Request) : (s.accept r).events = s.events := rfl

/-! ### State.takeRst -/

@[simp] theorem State.takeRst_seq : (s.takeRst).seq = s.seq := rfl
@[simp] theorem State.takeRst_ph : (s.takeRst).ph = s.ph := rfl
@[simp] theorem State.takeRst_curCmd : (s.takeRst).curCmd = s.curCmd := rfl
@[simp] theorem State.takeRst_want : (s.takeRst).want = s.want := rfl
@[simp] theorem State.takeRst_arg0 : (s.takeRst).arg0 = s.arg0 := rfl
@[simp] theorem State.takeRst_arg1 : (s.takeRst).arg1 = s.arg1 := rfl
@[simp] theorem State.takeRst_arg2 : (s.takeRst).arg2 = s.arg2 := rfl
@[simp] theorem State.takeRst_arg3 : (s.takeRst).arg3 = s.arg3 := rfl
@[simp] theorem State.takeRst_pay : (s.takeRst).pay = s.pay := rfl
@[simp] theorem State.takeRst_len : (s.takeRst).len = s.len := rfl
@[simp] theorem State.takeRst_body : (s.takeRst).body = s.body := rfl
@[simp] theorem State.takeRst_chk : (s.takeRst).chk = s.chk := rfl
@[simp] theorem State.takeRst_ti : (s.takeRst).ti = s.ti := rfl
@[simp] theorem State.takeRst_escp : (s.takeRst).escp = s.escp := rfl
@[simp] theorem State.takeRst_rb : (s.takeRst).rb = s.rb := rfl
@[simp] theorem State.takeRst_ri : (s.takeRst).ri = s.ri := rfl
@[simp] theorem State.takeRst_ndisc : (s.takeRst).ndisc = s.ndisc := rfl
@[simp] theorem State.takeRst_res : (s.takeRst).res = s.res := rfl
@[simp] theorem State.takeRst_reqs : (s.takeRst).reqs = s.reqs := rfl
@[simp] theorem State.takeRst_txAns : (s.takeRst).txAns = s.txAns := rfl
@[simp] theorem State.takeRst_rxAns : (s.takeRst).rxAns = s.rxAns := rfl
@[simp] theorem State.takeRst_payChg : (s.takeRst).payChg = s.payChg := rfl
@[simp] theorem State.takeRst_rstIn : (s.takeRst).rstIn = s.rstIn.tail := rfl
@[simp] theorem State.takeRst_draws : (s.takeRst).draws = s.draws := rfl
@[simp] theorem State.takeRst_events : (s.takeRst).events = s.events := rfl

/-! ### State.built -/

@[simp] theorem State.built_seq (b : Bytes) : (s.built b).seq = s.seq := rfl
@[simp] theorem State.built_ph (b : Bytes) : (s.built b).ph = .txLead := rfl
@[simp] theorem State.built_curCmd (b : Bytes) : (s.built b).curCmd = s.curCmd := rfl
@[simp] theorem State.built_want (b : Bytes) : (s.built b).want = s.want := rfl
@[simp] theorem State.built_arg0 (b : Bytes) : (s.built b).arg0 = s.arg0 := rfl
@[simp] theorem State.built_arg1 (b : Bytes) : (s.built b).arg1 = s.arg1 := rfl
@[simp] theorem State.built_arg2 (b : Bytes) : (s.built b).arg2 = s.arg2 := rfl
@[simp] theorem State.built_arg3 (b : Bytes) : (s.built b).arg3 = s.arg3 := rfl
@[simp] theorem State.built_pay (b : Bytes) : (s.built b).pay = s.pay := rfl
@[simp] theorem State.built_len (b : Bytes) : (s.built b).len = s.len := rfl
@[simp] theorem State.built_body (b : Bytes) : (s.built b).body = b := rfl
@[simp] theorem State.built_chk (b : Bytes) : (s.built b).chk = s.chk := rfl
@[simp] theorem State.built_ti (b : Bytes) : (s.built b).ti = s.ti := rfl
@[simp] theorem State.built_escp (b : Bytes) : (s.built b).escp = s.escp := rfl
@[simp] theorem State.built_rb (b : Bytes) : (s.built b).rb = s.rb := rfl
@[simp] theorem State.built_ri (b : Bytes) : (s.built b).ri = s.ri := rfl
@[simp] theorem State.built_ndisc (b : Bytes) : (s.built b).ndisc = s.ndisc := rfl
@[simp] theorem State.built_res (b : Bytes) : (s.built b).res = s.res := rfl
@[simp] theorem State.built_reqs (b : Bytes) : (s.built b).reqs = s.reqs := rfl
@[simp] theorem State.built_txAns (b : Bytes) : (s.built b).txAns = s.txAns := rfl
@[simp] theorem State.built_rxAns (b : Bytes) : (s.built b).rxAns = s.rxAns := rfl
@[simp] theorem State.built_payChg (b : Bytes) : (s.built b).payChg = s.payChg := rfl
@[simp] theorem State.built_rstIn (b : Bytes) : (s.built b).rstIn = s.rstIn := rfl
@[simp] theorem State.built_draws (b : Bytes) : (s.built b).draws = s.draws := rfl
@[simp] theorem State.built_events (b : Bytes) : (s.built b).events = s.events := rfl

/-! ### State.restartSeq -/

@[simp] theorem State.restartSeq_seq : (s.restartSeq).seq = 0 := rfl
@[simp] theorem State.restartSeq_ph : (s.restartSeq).ph = s.ph := rfl
@[simp] theorem State.restartSeq_curCmd : (s.restartSeq).curCmd = s.curCmd := rfl
@[simp] theorem State.restartSeq_want : (s.restartSeq).want = s.want := rfl
@[simp] theorem State.restartSeq_arg0 : (s.restartSeq).arg0 = s.arg0 := rfl
@[simp] theorem State.restartSeq_arg1 : (s.restartSeq).arg1 = s.arg1 := rfl
@[simp] theorem State.restartSeq_arg2 : (s.restartSeq).arg2 = s.arg2 := rfl
@[simp] theorem State.restartSeq_arg3 : (s.restartSeq).arg3 = s.arg3 := rfl
@[simp] theorem State.restartSeq_pay : (s.restartSeq).pay = s.pay := rfl
@[simp] theorem State.restartSeq_len : (s.restartSeq).len = s.len := rfl
@[simp] theorem State.restartSeq_body : (s.restartSeq).body = s.body := rfl
@[simp] theorem State.restartSeq_chk : (s.restartSeq).chk = s.chk := rfl
@[simp] theorem State.restartSeq_ti : (s.restartSeq).ti = s.ti := rfl
@[simp] theorem State.restartSeq_escp : (s.restartSeq).escp = s.escp := rfl
@[simp] theorem State.restartSeq_rb : (s.restartSeq).rb = s.rb := rfl
@[simp] theorem State.restartSeq_ri : (s.restartSeq).ri = s.ri := rfl
@[simp] theorem State.restartSeq_ndisc : (s.restartSeq).ndisc = s.ndisc := rfl
@[simp] theorem State.restartSeq_res : (s.restartSeq).res = s.res := rfl
@[simp] theorem State.restartSeq_reqs : (s.restartSeq).reqs = s.reqs := rfl
@[simp] theorem State.restartSeq_txAns : (s.restartSeq).txAns = s.txAns := rfl
@[simp] theorem State.restartSeq_rxAns : (s.restartSeq).rxAns = s.rxAns := rfl
@[simp] theorem State.restartSeq_payChg : (s.restartSeq).payChg = s.payChg := rfl
@[simp] theorem State.restartSeq_rstIn : (s.restartSeq).rstIn = s.rstIn := rfl
@[simp] theorem State.restartSeq_draws : (s.restartSeq).draws = s.draws := rfl
@[simp] theorem State.restartSeq_events : (s.restartSeq).events = s.events := rfl

/-! ### State.advanceSeq -/

@[simp] theorem State.advanceSeq_seq : (s.advanceSeq).seq = s.seq + 1 := rfl
@[simp] theorem State.advanceSeq_ph : (s.advanceSeq).ph = s.ph := rfl
@[simp] theorem State.advanceSeq_curCmd : (s.advanceSeq).curCmd = s.curCmd := rfl
@[simp] theorem State.advanceSeq_want : (s.advanceSeq).want = s.want := rfl
@[simp] theorem State.advanceSeq_arg0 : (s.advanceSeq).arg0 = s.arg0 := rfl
@[simp] theorem State.advanceSeq_arg1 : (s.advanceSeq).arg1 = s.arg1 := rfl
@[simp] theorem State.advanceSeq_arg2 : (s.advanceSeq).arg2 = s.arg2 := rfl
@[simp] theorem State.advanceSeq_arg3 : (s.advanceSeq).arg3 = s.arg3 := rfl
@[simp] theorem State.advanceSeq_pay : (s.advanceSeq).pay = s.pay := rfl
@[simp] theorem State.advanceSeq_len : (s.advanceSeq).len = s.len := rfl
@[simp] theorem State.advanceSeq_body : (s.advanceSeq).body = s.body := rfl
@[simp] theorem State.advanceSeq_chk : (s.advanceSeq).chk = s.chk := rfl
@[simp] theorem State.advanceSeq_ti : (s.advanceSeq).ti = s.ti := rfl
@[simp] theorem State.advanceSeq_escp : (s.advanceSeq).escp = s.escp := rfl
@[simp] theorem State.advanceSeq_rb : (s.advanceSeq).rb = s.rb := rfl
@[simp] theorem State.advanceSeq_ri : (s.advanceSeq).ri = s.ri := rfl
@[simp] theorem State.advanceSeq_ndisc : (s.advanceSeq).ndisc = s.ndisc := rfl
@[simp] theorem State.advanceSeq_res : (s.advanceSeq).res = s.res := rfl
@[simp] theorem State.advanceSeq_reqs : (s.advanceSeq).reqs = s.reqs := rfl
@[simp] theorem State.advanceSeq_txAns : (s.advanceSeq).txAns = s.txAns := rfl
@[simp] theorem State.advanceSeq_rxAns : (s.advanceSeq).rxAns = s.rxAns := rfl
@[simp] theorem State.advanceSeq_payChg : (s.advanceSeq).payChg = s.payChg := rfl
@[simp] theorem State.advanceSeq_rstIn : (s.advanceSeq).rstIn = s.rstIn := rfl
@[simp] theorem State.advanceSeq_draws : (s.advanceSeq).draws = s.draws := rfl
@[simp] theorem State.advanceSeq_events : (s.advanceSeq).events = s.events := rfl

/-! ### State.takeChecksum -/

@[simp] theorem State.takeChecksum_seq (p : Bytes) : (s.takeChecksum p).seq = s.seq := rfl
@[simp] theorem State.takeChecksum_ph (p : Bytes) : (s.takeChecksum p).ph = s.ph := rfl
@[simp] theorem State.takeChecksum_curCmd (p : Bytes) : (s.takeChecksum p).curCmd = s.curCmd := rfl
@[simp] theorem State.takeChecksum_want (p : Bytes) : (s.takeChecksum p).want = s.want := rfl
@[simp] theorem State.takeChecksum_arg0 (p : Bytes) : (s.takeChecksum p).arg0 = s.arg0 := rfl
@[simp] theorem State.takeChecksum_arg1 (p : Bytes) : (s.takeChecksum p).arg1 = s.arg1 := rfl
@[simp] theorem State.takeChecksum_arg2 (p : Bytes) : (s.takeChecksum p).arg2 = s.arg2 := rfl
@[simp] theorem State.takeChecksum_arg3 (p : Bytes) : (s.takeChecksum p).arg3 = s.arg3 := rfl
@[simp] theorem State.takeChecksum_pay (p : Bytes) : (s.takeChecksum p).pay = s.pay := rfl
@[simp] theorem State.takeChecksum_len (p : Bytes) : (s.takeChecksum p).len = s.len := rfl
@[simp] theorem State.takeChecksum_body (p : Bytes) : (s.takeChecksum p).body = s.body := rfl
@[simp] theorem State.takeChecksum_chk (p : Bytes) : (s.takeChecksum p).chk = checksum (observed p s.payChg) := rfl
@[simp] theorem State.takeChecksum_ti (p : Bytes) : (s.takeChecksum p).ti = s.ti := rfl
@[simp] theorem State.takeChecksum_escp (p : Bytes) : (s.takeChecksum p).escp = s.escp := rfl
@[simp] theorem State.takeChecksum_rb (p : Bytes) : (s.takeChecksum p).rb = s.rb := rfl
@[simp] theorem State.takeChecksum_ri (p : Bytes) : (s.takeChecksum p).ri = s.ri := rfl
@[simp] theorem State.takeChecksum_ndisc (p : Bytes) : (s.takeChecksum p).ndisc = s.ndisc := rfl
@[simp] theorem State.takeChecksum_res (p : Bytes) : (s.takeChecksum p).res = s.res := rfl
@[simp] theorem State.takeChecksum_reqs (p : Bytes) : (s.takeChecksum p).reqs = s.reqs := rfl
@[simp] theorem State.takeChecksum_txAns (p : Bytes) : (s.takeChecksum p).txAns = s.txAns := rfl
@[simp] theorem State.takeChecksum_rxAns (p : Bytes) : (s.takeChecksum p).rxAns = s.rxAns := rfl
@[simp] theorem State.takeChecksum_payChg (p : Bytes) : (s.takeChecksum p).payChg = s.payChg.drop p.length := rfl
@[simp] theorem State.takeChecksum_rstIn (p : Bytes) : (s.takeChecksum p).rstIn = s.rstIn := rfl
@[simp] theorem State.takeChecksum_draws (p : Bytes) : (s.takeChecksum p).draws = s.draws := rfl
@[simp] theorem State.takeChecksum_events (p : Bytes) : (s.takeChecksum p).events = s.events := rfl

/-! ### State.goto -/

@[simp] theorem State.goto_seq (ph : Phase) : (s.goto ph).seq = s.seq := rfl
@[simp] theorem State.goto_ph (ph : Phase) : (s.goto ph).ph = ph := rfl
@[simp] theorem State.goto_curCmd (ph : Phase) : (s.goto ph).curCmd = s.curCmd := rfl
@[simp] theorem State.goto_want (ph : Phase) : (s.goto ph).want = s.want := rfl
@[simp] theorem State.goto_arg0 (ph : Phase) : (s.goto ph).arg0 = s.arg0 := rfl
@[simp] theorem State.goto_arg1 (ph : Phase) : (s.goto ph).arg1 = s.arg1 := rfl
@[simp] theorem State.goto_arg2 (ph : Phase) : (s.goto ph).arg2 = s.arg2 := rfl
@[simp] theorem State.goto_arg3 (ph : Phase) : (s.goto ph).arg3 = s.arg3 := rfl
@[simp] theorem State.goto_pay (ph : Phase) : (s.goto ph).pay = s.pay := rfl
@[simp] theorem State.goto_len (ph : Phase) : (s.goto ph).len = s.len := rfl
@[simp] theorem State.goto_body (ph : Phase) : (s.goto ph).body = s.body := rfl
@[simp] theorem State.goto_chk (ph : Phase) : (s.goto ph).chk = s.chk := rfl
@[simp] theorem State.goto_ti (ph : Phase) : (s.goto ph).ti = s.ti := rfl
@[simp] theorem State.goto_escp (ph : Phase) : (s.goto ph).escp = s.escp := rfl
@[simp] theorem State.goto_rb (ph : Phase) : (s.goto ph).rb = s.rb := rfl
@[simp] theorem State.goto_ri (ph : Phase) : (s.goto ph).ri = s.ri := rfl
@[simp] theorem State.goto_ndisc (ph : Phase) : (s.goto ph).ndisc = s.ndisc := rfl
@[simp] theorem State.goto_res (ph : Phase) : (s.goto ph).res = s.res := rfl
@[simp] theorem State.goto_reqs (ph : Phase) : (s.goto ph).reqs = s.reqs := rfl
@[simp] theorem State.goto_txAns (ph : Phase) : (s.goto ph).txAns = s.txAns := rfl
@[simp] theorem State.goto_rxAns (ph : Phase) : (s.goto ph).rxAns = s.rxAns := rfl
@[simp] theorem State.goto_payChg (ph : Phase) : (s.goto ph).payChg = s.payChg := rfl
@[simp] theorem State.goto_rstIn (ph : Phase) : (s.goto ph).rstIn = s.rstIn := rfl
@[simp] theorem State.goto_draws (ph : Phase) : (s.goto ph).draws = s.draws := rfl
@[simp] theorem State.goto_events (ph : Phase) : (s.goto ph).events = s.events := rfl

/-! ### State.beginBody -/

@[simp] theorem State.beginBody_seq : (s.beginBody).seq = s.seq := rfl
@[simp] theorem State.beginBody_ph : (s.beginBody).ph = .txBody := rfl
@[simp] theorem State.beginBody_curCmd : (s.beginBody).curCmd = s.curCmd := rfl
@[simp] theorem State.beginBody_want : (s.beginBody).want = s.want := rfl
@[simp] theorem State.beginBody_arg0 : (s.beginBody).arg0 = s.arg0 := rfl
@[simp] theorem State.beginBody_arg1 : (s.beginBody).arg1 = s.arg1 := rfl
@[simp] theorem State.beginBody_arg2 : (s.beginBody).arg2 = s.arg2 := rfl
@[simp] theorem State.beginBody_arg3 : (s.beginBody).arg3 = s.arg3 := rfl
@[simp] theorem State.beginBody_pay : (s.beginBody).pay = s.pay := rfl
@[simp] theorem State.beginBody_len : (s.beginBody).len = s.len := rfl
@[simp] theorem State.beginBody_body : (s.beginBody).body = s.body := rfl
@[simp] theorem State.beginBody_chk : (s.beginBody).chk = s.chk := rfl
@[simp] theorem State.beginBody_ti : (s.beginBody).ti = 0 := rfl
@[simp] theorem State.beginBody_escp : (s.beginBody).escp = none := rfl
@[simp] theorem State.beginBody_rb : (s.beginBody).rb = s.rb := rfl
@[simp] theorem State.beginBody_ri : (s.beginBody).ri = s.ri := rfl
@[simp] theorem State.beginBody_ndisc : (s.beginBody).ndisc = s.ndisc := rfl
@[simp] theorem State.beginBody_res : (s.beginBody).res = s.res := rfl
@[simp] theorem State.beginBody_reqs : (s.beginBody).reqs = s.reqs := rfl
@[simp] theorem State.beginBody_txAns : (s.beginBody).txAns = s.txAns := rfl
@[simp] theorem State.beginBody_rxAns : (s.beginBody).rxAns = s.rxAns := rfl
@[simp] theorem State.beginBody_payChg : (s.beginBody).payChg = s.payChg := rfl
@[simp] theorem State.beginBody_rstIn : (s.beginBody).rstIn = s.rstIn := rfl
@[simp] theorem State.beginBody_draws : (s.beginBody).draws = s.draws := rfl
@[simp] theorem State.beginBody_events : (s.beginBody).events = s.events := rfl

/-! ### State.dropEscp -/

@[simp] theorem State.dropEscp_seq : (s.dropEscp).seq = s.seq := rfl
@[simp] theorem State.dropEscp_ph : (s.dropEscp).ph = s.ph := rfl
@[simp] theorem State.dropEscp_curCmd : (s.dropEscp).curCmd = s.curCmd := rfl
@[simp] theorem State.dropEscp_want : (s.dropEscp).want = s.want := rfl
@[simp] theorem State.dropEscp_arg0 : (s.dropEscp).arg0 = s.arg0 := rfl
@[simp] theorem State.dropEscp_arg1 : (s.dropEscp).arg1 = s.arg1 := rfl
@[simp] theorem State.dropEscp_arg2 : (s.dropEscp).arg2 = s.arg2 := rfl
@[simp] theorem State.dropEscp_arg3 : (s.dropEscp).arg3 = s.arg3 := rfl
@[simp] theorem State.dropEscp_pay : (s.dropEscp).pay = s.pay := rfl
@[simp] theorem State.dropEscp_len : (s.dropEscp).len = s.len := rfl
@[simp] theorem State.dropEscp_body : (s.dropEscp).body = s.body := rfl
@[simp] theorem State.dropEscp_chk : (s.dropEscp).chk = s.chk := rfl
@[simp] theorem State.dropEscp_ti : (s.dropEscp).ti = s.ti := rfl
@[simp] theorem State.dropEscp_escp : (s.dropEscp).escp = none := rfl
@[simp] theorem State.dropEscp_rb : (s.dropEscp).rb = s.rb := rfl
@[simp] theorem State.dropEscp_ri : (s.dropEscp).ri = s.ri := rfl
@[simp] theorem State.dropEscp_ndisc : (s.dropEscp).ndisc = s.ndisc := rfl
@[simp] theorem State.dropEscp_res : (s.dropEscp).res = s.res := rfl
@[simp] theorem State.dropEscp_reqs : (s.dropEscp).reqs = s.reqs := rfl
@[simp] theorem State.dropEscp_txAns : (s.dropEscp).txAns = s.txAns := rfl
@[simp] theorem State.dropEscp_rxAns : (s.dropEscp).rxAns = s.rxAns := rfl
@[simp] theorem State.dropEscp_payChg : (s.dropEscp).payChg = s.payChg := rfl
@[simp] theorem State.dropEscp_rstIn : (s.dropEscp).rstIn = s.rstIn := rfl
@[simp] theorem State.dropEscp_draws : (s.dropEscp).draws = s.draws := rfl
@[simp] theorem State.dropEscp_events : (s.dropEscp).events = s.events := rfl

/-! ### State.pastByte -/

@[simp] theorem State.pastByte_seq : (s.pastByte).seq = s.seq := rfl
@[simp] theorem State.pastByte_ph : (s.pastByte).ph = s.ph := rfl
@[simp] theorem State.pastByte_curCmd : (s.pastByte).curCmd = s.curCmd := rfl
@[simp] theorem State.pastByte_want : (s.pastByte).want = s.want := rfl
@[simp] theorem State.pastByte_arg0 : (s.pastByte).arg0 = s.arg0 := rfl
@[simp] theorem State.pastByte_arg1 : (s.pastByte).arg1 = s.arg1 := rfl
@[simp] theorem State.pastByte_arg2 : (s.pastByte).arg2 = s.arg2 := rfl
@[simp] theorem State.pastByte_arg3 : (s.pastByte).arg3 = s.arg3 := rfl
@[simp] theorem State.pastByte_pay : (s.pastByte).pay = s.pay := rfl
@[simp] theorem State.pastByte_len : (s.pastByte).len = s.len := rfl
@[simp] theorem State.pastByte_body : (s.pastByte).body = s.body := rfl
@[simp] theorem State.pastByte_chk : (s.pastByte).chk = s.chk := rfl
@[simp] theorem State.pastByte_ti : (s.pastByte).ti = s.ti + 1 := rfl
@[simp] theorem State.pastByte_escp : (s.pastByte).escp = escSecond s.sendByte := rfl
@[simp] theorem State.pastByte_rb : (s.pastByte).rb = s.rb := rfl
@[simp] theorem State.pastByte_ri : (s.pastByte).ri = s.ri := rfl
@[simp] theorem State.pastByte_ndisc : (s.pastByte).ndisc = s.ndisc := rfl
@[simp] theorem State.pastByte_res : (s.pastByte).res = s.res := rfl
@[simp] theorem State.pastByte_reqs : (s.pastByte).reqs = s.reqs := rfl
@[simp] theorem State.pastByte_txAns : (s.pastByte).txAns = s.txAns := rfl
@[simp] theorem State.pastByte_rxAns : (s.pastByte).rxAns = s.rxAns := rfl
@[simp] theorem State.pastByte_payChg : (s.pastByte).payChg = s.changesLeft := rfl
@[simp] theorem State.pastByte_rstIn : (s.pastByte).rstIn = s.rstIn := rfl
@[simp] theorem State.pastByte_draws : (s.pastByte).draws = s.draws := rfl
@[simp] theorem State.pastByte_events : (s.pastByte).events = s.events := rfl

/-! ### State.beginData -/

@[simp] theorem State.beginData_seq : (s.beginData).seq = s.seq := rfl
@[simp] theorem State.beginData_ph : (s.beginData).ph = .rxData := rfl
@[simp] theorem State.beginData_curCmd : (s.beginData).curCmd = s.curCmd := rfl
@[simp] theorem State.beginData_want : (s.beginData).want = s.want := rfl
@[simp] theorem State.beginData_arg0 : (s.beginData).arg0 = s.arg0 := rfl
@[simp] theorem State.beginData_arg1 : (s.beginData).arg1 = s.arg1 := rfl
@[simp] theorem State.beginData_arg2 : (s.beginData).arg2 = s.arg2 := rfl
@[simp] theorem State.beginData_arg3 : (s.beginData).arg3 = s.arg3 := rfl
@[simp] theorem State.beginData_pay : (s.beginData).pay = s.pay := rfl
@[simp] theorem State.beginData_len : (s.beginData).len = s.len := rfl
@[simp] theorem State.beginData_body : (s.beginData).body = s.body := rfl
@[simp] theorem State.beginData_chk : (s.beginData).chk = s.chk := rfl
@[simp] theorem State.beginData_ti : (s.beginData).ti = s.ti := rfl
@[simp] theorem State.beginData_escp : (s.beginData).escp = s.escp := rfl
@[simp] theorem State.beginData_rb : (s.beginData).rb = s.rb := rfl
@[simp] theorem State.beginData_ri : (s.beginData).ri = 0 := rfl
@[simp] theorem State.beginData_ndisc : (s.beginData).ndisc = s.ndisc := rfl
@[simp] theorem State.beginData_res : (s.beginData).res = s.res := rfl
@[simp] theorem State.beginData_reqs : (s.beginData).reqs = s.reqs := rfl
@[simp] theorem State.beginData_txAns : (s.beginData).txAns = s.txAns := rfl
@[simp] theorem State.beginData_rxAns : (s.beginData).rxAns = s.rxAns := rfl
@[simp] theorem State.beginData_payChg : (s.beginData).payChg = s.payChg := rfl
@[simp] theorem State.beginData_rstIn : (s.beginData).rstIn = s.rstIn := rfl
@[simp] theorem State.beginData_draws : (s.beginData).draws = s.draws := rfl
@[simp] theorem State.beginData_events : (s.beginData).events = s.events := rfl

/-! ### State.store -/

@[simp] theorem State.store_seq (n : Nat) (v : Byte) : (s.store n v).seq = s.seq := rfl
@[simp] theorem State.store_ph (n : Nat) (v : Byte) : (s.store n v).ph = if s.ri + 1 < n then .rxData else .rxTrail := rfl
@[simp] theorem State.store_curCmd (n : Nat) (v : Byte) : (s.store n v).curCmd = s.curCmd := rfl
@[simp] theorem State.store_want (n : Nat) (v : Byte) : (s.store n v).want = s.want := rfl
@[simp] theorem State.store_arg0 (n : Nat) (v : Byte) : (s.store n v).arg0 = s.arg0 := rfl
@[simp] theorem State.store_arg1 (n : Nat) (v : Byte) : (s.store n v).arg1 = s.arg1 := rfl
@[simp] theorem State.store_arg2 (n : Nat) (v : Byte) : (s.store n v).arg2 = s.arg2 := rfl
@[simp] theorem State.store_arg3 (n : Nat) (v : Byte) : (s.store n v).arg3 = s.arg3 := rfl
@[simp] theorem State.store_pay (n : Nat) (v : Byte) : (s.store n v).pay = s.pay := rfl
@[simp] theorem State.store_len (n : Nat) (v : Byte) : (s.store n v).len = s.len := rfl
@[simp] theorem State.store_body (n : Nat) (v : Byte) : (s.store n v).body = s.body := rfl
@[simp] theorem State.store_chk (n : Nat) (v : Byte) : (s.store n v).chk = s.chk := rfl
@[simp] theorem State.store_ti (n : Nat) (v : Byte) : (s.store n v).ti = s.ti := rfl
@[simp] theorem State.store_escp (n : Nat) (v : Byte) : (s.store n v).escp = s.escp := rfl
@[simp] theorem State.store_rb (n : Nat) (v : Byte) : (s.store n v).rb = s.rb.set s.ri v := rfl
@[simp] theorem State.store_ri (n : Nat) (v : Byte) : (s.store n v).ri = s.ri + 1 := rfl
@[simp] theorem State.store_ndisc (n : Nat) (v : Byte) : (s.store n v).ndisc = s.ndisc := rfl
@[simp] theorem State.store_res (n : Nat) (v : Byte) : (s.store n v).res = s.res := rfl
@[simp] theorem State.store_reqs (n : Nat) (v : Byte) : (s.store n v).reqs = s.reqs := rfl
@[simp] theorem State.store_txAns (n : Nat) (v : Byte) : (s.store n v).txAns = s.txAns := rfl
@[simp] theorem State.store_rxAns (n : Nat) (v : Byte) : (s.store n v).rxAns = s.rxAns := rfl
@[simp] theorem State.store_payChg (n : Nat) (v : Byte) : (s.store n v).payChg = s.payChg := rfl
@[simp] theorem State.store_rstIn (n : Nat) (v : Byte) : (s.store n v).rstIn = s.rstIn := rfl
@[simp] theorem State.store_draws (n : Nat) (v : Byte) : (s.store n v).draws = s.draws := rfl
@[simp] theorem State.store_events (n : Nat) (v : Byte) : (s.store n v).events = s.events := rfl

/-! ### State.countDiscard -/

@[simp] theorem State.countDiscard_seq : (s.countDiscard).seq = s.seq := rfl
@[simp] theorem State.countDiscard_ph : (s.countDiscard).ph = s.ph := rfl
@[simp] theorem State.countDiscard_curCmd : (s.countDiscard).curCmd = s.curCmd := rfl
@[simp] theorem State.countDiscard_want : (s.countDiscard).want = s.want := rfl
@[simp] theorem State.countDiscard_arg0 : (s.countDiscard).arg0 = s.arg0 := rfl
@[simp] theorem State.countDiscard_arg1 : (s.countDiscard).arg1 = s.arg1 := rfl
@[simp] theorem State.countDiscard_arg2 : (s.countDiscard).arg2 = s.arg2 := rfl
@[simp] theorem State.countDiscard_arg3 : (s.countDiscard).arg3 = s.arg3 := rfl
@[simp] theorem State.countDiscard_pay : (s.countDiscard).pay = s.pay := rfl
@[simp] theorem State.countDiscard_len : (s.countDiscard).len = s.len := rfl
@[simp] theorem State.countDiscard_body : (s.countDiscard).body = s.body := rfl
@[simp] theorem State.countDiscard_chk : (s.countDiscard).chk = s.chk := rfl
@[simp] theorem State.countDiscard_ti : (s.countDiscard).ti = s.ti := rfl
@[simp] theorem State.countDiscard_escp : (s.countDiscard).escp = s.escp := rfl
@[simp] theorem State.countDiscard_rb : (s.countDiscard).rb = s.rb := rfl
@[simp] theorem State.countDiscard_ri : (s.countDiscard).ri = s.ri := rfl
@[simp] theorem State.countDiscard_ndisc : (s.countDiscard).ndisc = s.ndisc + 1 := rfl
@[simp] theorem State.countDiscard_res : (s.countDiscard).res = s.res := rfl
@[simp] theorem State.countDiscard_reqs : (s.countDiscard).reqs = s.reqs := rfl
@[simp] theorem State.countDiscard_txAns : (s.countDiscard).txAns = s.txAns := rfl
@[simp] theorem State.countDiscard_rxAns : (s.countDiscard).rxAns = s.rxAns := rfl
@[simp] theorem State.countDiscard_payChg : (s.countDiscard).payChg = s.payChg := rfl
@[simp] theorem State.countDiscard_rstIn : (s.countDiscard).rstIn = s.rstIn := rfl
@[simp] theorem State.countDiscard_draws : (s.countDiscard).draws = s.draws := rfl
@[simp] theorem State.countDiscard_events : (s.countDiscard).events = s.events := rfl

/-! ### State.dropRequest -/

@[simp] theorem State.dropRequest_seq : (s.dropRequest).seq = s.seq := rfl
@[simp] theorem State.dropRequest_ph : (s.dropRequest).ph = s.ph := rfl
@[simp] theorem State.dropRequest_curCmd : (s.dropRequest).curCmd = s.curCmd := rfl
@[simp] theorem State.dropRequest_want : (s.dropRequest).want = s.want := rfl
@[simp] theorem State.dropRequest_arg0 : (s.dropRequest).arg0 = s.arg0 := rfl
@[simp] theorem State.dropRequest_arg1 : (s.dropRequest).arg1 = s.arg1 := rfl
@[simp] theorem State.dropRequest_arg2 : (s.dropRequest).arg2 = s.arg2 := rfl
@[simp] theorem State.dropRequest_arg3 : (s.dropRequest).arg3 = s.arg3 := rfl
@[simp] theorem State.dropRequest_pay : (s.dropRequest).pay = s.pay := rfl
@[simp] theorem State.dropRequest_len : (s.dropRequest).len = s.len := rfl
@[simp] theorem State.dropRequest_body : (s.dropRequest).body = s.body := rfl
@[simp] theorem State.dropRequest_chk : (s.dropRequest).chk = s.chk := rfl
@[simp] theorem State.dropRequest_ti : (s.dropRequest).ti = s.ti := rfl
@[simp] theorem State.dropRequest_escp : (s.dropRequest).escp = s.escp := rfl
@[simp] theorem State.dropRequest_rb : (s.dropRequest).rb = s.rb := rfl
@[simp] theorem State.dropRequest_ri : (s.dropRequest).ri = s.ri := rfl
@[simp] theorem State.dropRequest_ndisc : (s.dropRequest).ndisc = s.ndisc := rfl
@[simp] theorem State.dropRequest_res : (s.dropRequest).res = s.res := rfl
@[simp] theorem State.dropRequest_reqs : (s.dropRequest).reqs = s.reqs.tail := rfl
@[simp] theorem State.dropRequest_txAns : (s.dropRequest).txAns = s.txAns := rfl
@[simp] theorem State.dropRequest_rxAns : (s.dropRequest).rxAns = s.rxAns := rfl
@[simp] theorem State.dropRequest_payChg : (s.dropRequest).payChg = s.payChg := rfl
@[simp] theorem State.dropRequest_rstIn : (s.dropRequest).rstIn = s.rstIn := rfl
@[simp] theorem State.dropRequest_draws : (s.dropRequest).draws = s.draws := rfl
@[simp] theorem State.dropRequest_events : (s.dropRequest).events = s.events := rfl

/-! ### State.present -/

@[simp] theorem State.present_seq (r : Request) : (s.present r).seq = s.seq := rfl
@[simp] theorem State.present_ph (r : Request) : (s.present r).ph = .idle := rfl
@[simp] theorem State.present_curCmd (r : Request) : (s.present r).curCmd = s.curCmd := rfl
@[simp] theorem State.present_want (r : Request) : (s.present r).want = s.want := rfl
@[simp] theorem State.present_arg0 (r : Request) : (s.present r).arg0 = s.arg0 := rfl
@[simp] theorem State.present_arg1 (r : Request) : (s.present r).arg1 = s.arg1 := rfl
@[simp] theorem State.present_arg2 (r : Request) : (s.present r).arg2 = s.arg2 := rfl
@[simp] theorem State.present_arg3 (r : Request) : (s.present r).arg3 = s.arg3 := rfl
@[simp] theorem State.present_pay (r : Request) : (s.present r).pay = s.pay := rfl
@[simp] theorem State.present_len (r : Request) : (s.present r).len = s.len := rfl
@[simp] theorem State.present_body (r : Request) : (s.present r).body = s.body := rfl
@[simp] theorem State.present_chk (r : Request) : (s.present r).chk = s.chk := rfl
@[simp] theorem State.present_ti (r : Request) : (s.present r).ti = s.ti := rfl
@[simp] theorem State.present_escp (r : Request) : (s.present r).escp = s.escp := rfl
@[simp] theorem State.present_rb (r : Request) : (s.present r).rb = s.rb := rfl
@[simp] theorem State.present_ri (r : Request) : (s.present r).ri = s.ri := rfl
@[simp] theorem State.present_ndisc (r : Request) : (s.present r).ndisc = s.ndisc := rfl
@[simp] theorem State.present_res (r : Request) : (s.present r).res = s.res := rfl
@[simp] theorem State.present_reqs (r : Request) : (s.present r).reqs = r :: s.reqs := rfl
@[simp] theorem State.present_txAns (r : Request) : (s.present r).txAns = s.txAns := rfl
@[simp] theorem State.present_rxAns (r : Request) : (s.present r).rxAns = s.rxAns := rfl
@[simp] theorem State.present_payChg (r : Request) : (s.present r).payChg = s.payChg := rfl
@[simp] theorem State.present_rstIn (r : Request) : (s.present r).rstIn = noPulseNext s.rstIn := rfl
@[simp] theorem State.present_draws (r : Request) : (s.present r).draws = s.draws := rfl
@[simp] theorem State.present_events (r : Request) : (s.present r).events = s.events := rfl

/-! ### State.blockReset -/

@[simp] theorem State.blockReset_seq : s.blockReset.seq = State.reset.seq := rfl
@[simp] theorem State.blockReset_ph : s.blockReset.ph = State.reset.ph := rfl
@[simp] theorem State.blockReset_curCmd : s.blockReset.curCmd = State.reset.curCmd := rfl
@[simp] theorem State.blockReset_want : s.blockReset.want = State.reset.want := rfl
@[simp] theorem State.blockReset_arg0 : s.blockReset.arg0 = State.reset.arg0 := rfl
@[simp] theorem State.blockReset_arg1 : s.blockReset.arg1 = State.reset.arg1 := rfl
@[simp] theorem State.blockReset_arg2 : s.blockReset.arg2 = State.reset.arg2 := rfl
@[simp] theorem State.blockReset_arg3 : s.blockReset.arg3 = State.reset.arg3 := rfl
@[simp] theorem State.blockReset_pay : s.blockReset.pay = State.reset.pay := rfl
@[simp] theorem State.blockReset_len : s.blockReset.len = State.reset.len := rfl
@[simp] theorem State.blockReset_body : s.blockReset.body = State.reset.body := rfl
@[simp] theorem State.blockReset_chk : s.blockReset.chk = State.reset.chk := rfl
@[simp] theorem State.blockReset_ti : s.blockReset.ti = State.reset.ti := rfl
@[simp] theorem State.blockReset_escp : s.blockReset.escp = State.reset.escp := rfl
@[simp] theorem State.blockReset_rb : s.blockReset.rb = State.reset.rb := rfl
@[simp] theorem State.blockReset_ri : s.blockReset.ri = State.reset.ri := rfl
@[simp] theorem State.blockReset_ndisc : s.blockReset.ndisc = State.reset.ndisc := rfl
@[simp] theorem State.blockReset_res : s.blockReset.res = State.reset.res := rfl
@[simp] theorem State.blockReset_reqs : s.blockReset.reqs = s.reqs := rfl
@[simp] theorem State.blockReset_txAns : s.blockReset.txAns = s.txAns := rfl
@[simp] theorem State.blockReset_rxAns : s.blockReset.rxAns = s.rxAns := rfl
@[simp] theorem State.blockReset_payChg : s.blockReset.payChg = s.payChg := rfl
@[simp] theorem State.blockReset_rstIn : s.blockReset.rstIn = s.rstIn := rfl
@[simp] theorem State.blockReset_draws : s.blockReset.draws = s.draws := rfl
@[simp] theorem State.blockReset_events : s.blockReset.events = s.events := rfl

end Sys2Proof.Machine
end

