-- ==== Sys2Proof/Laws/Ops.lean ====
section
/-! SUPPORT. What each shared operation can do, said once: the transfers, the steps of FrameSend, FrameReceive and Await, and exec as
Execute over one builder an instruction. -/

namespace Sys2Proof.Machine

variable {s t : State}

/-! ## Answers -/

theorem txAnswer_listed {a : TxAnswer} {as : List TxAnswer} (h : s.txAns = a :: as) : s.txAnswer = a := by
  simp [State.txAnswer, h]

theorem rxAnswer_listed {a : RxAnswer} {as : List RxAnswer} (h : s.rxAns = a :: as) : s.rxAnswer = a := by
  simp [State.rxAnswer, h]

@[simp] theorem dropEscp_txAnswer : s.dropEscp.txAnswer = s.txAnswer := rfl

@[simp] theorem pastByte_txAnswer : s.pastByte.txAnswer = s.txAnswer := rfl

/-! ## Transfers -/

/-- A TxWrite goes on with `k` after `ok`, and completes with the transport's error after `err`. -/
theorem tryTx_eq_next {b : Byte} {k : State → Out} :
    tryTx b s k = .next t ↔
      (s.txAnswer = .ok ∧ k (s.afterTx b) = .next t) ∨
      (∃ e, s.txAnswer = .err e ∧ (s.afterTx b).complete (transportResult e) = t) := by
  unfold tryTx raiseTransport
  cases s.txAnswer <;> simp

/-- An RxRead goes on with `k` after a byte, and completes with the transport's error after `err`. -/
theorem tryRx_eq_next {k : Byte → State → Out} :
    tryRx s k = .next t ↔
      (∃ b, s.rxAnswer = .byte b ∧ k b s.afterRx = .next t) ∨
      (∃ e, s.rxAnswer = .err e ∧ s.afterRx.complete (transportResult e) = t) := by
  unfold tryRx raiseTransport
  cases s.rxAnswer <;> simp

/-! ## FrameSend -/

theorem txLeadStep_eq_next : txLeadStep s = .next t ↔
    (s.txAnswer = .ok ∧ (s.afterTx slipEnd).beginBody = t) ∨
    (∃ e, s.txAnswer = .err e ∧ (s.afterTx slipEnd).complete (transportResult e) = t) := by
  simp [txLeadStep, tryTx_eq_next]

theorem txTrailStep_eq_next : txTrailStep s = .next t ↔
    (s.txAnswer = .ok ∧ (s.afterTx slipEnd).goto .rxHunt = t) ∨
    (∃ e, s.txAnswer = .err e ∧ (s.afterTx slipEnd).complete (transportResult e) = t) := by
  simp [txTrailStep, tryTx_eq_next]

theorem txBodyStep_eq_next : txBodyStep s = .next t ↔
    (∃ w, s.escp = some w ∧
      ((s.txAnswer = .ok ∧ txBodyDone (s.dropEscp.afterTx w) = t) ∨
       (∃ e, s.txAnswer = .err e ∧ (s.dropEscp.afterTx w).complete (transportResult e) = t))) ∨
    (s.escp = none ∧ s.ti < s.sendTotal ∧
      ((s.txAnswer = .ok ∧ txBodyDone (s.pastByte.afterTx (escFirst s.sendByte)) = t) ∨
       (∃ e, s.txAnswer = .err e ∧ (s.pastByte.afterTx (escFirst s.sendByte)).complete (transportResult e) = t))) := by
  unfold txBodyStep txEscapeStep txByteStep
  cases s.escp with
  | some w => simp [tryTx_eq_next]
  | none => by_cases h : s.ti < s.sendTotal <;> simp [h, tryTx_eq_next]

/-! ## FrameReceive -/

theorem rxHuntStep_eq_next : rxHuntStep s = .next t ↔
    (∃ b, s.rxAnswer = .byte b ∧ (if b = slipEnd then s.afterRx.beginData else s.afterRx) = t) ∨
    (∃ e, s.rxAnswer = .err e ∧ s.afterRx.complete (transportResult e) = t) := by
  simp only [rxHuntStep, tryRx_eq_next, ← apply_ite Host.Outcome.next, Host.Outcome.next.injEq]

theorem rxDataStep_eq_next {p : Params} : rxDataStep p s = .next t ↔
    (∃ b, s.rxAnswer = .byte b ∧ (if b = slipEsc then s.afterRx.goto .rxEsc else s.afterRx.store p.respLen b) = t) ∨
    (∃ e, s.rxAnswer = .err e ∧ s.afterRx.complete (transportResult e) = t) := by
  simp only [rxDataStep, tryRx_eq_next, ← apply_ite Host.Outcome.next, Host.Outcome.next.injEq]

/-- RX_ESC stores what the pair decodes to, and a pair that decodes to nothing ends the command. -/
theorem rxEscStep_eq_next {p : Params} : rxEscStep p s = .next t ↔
    (∃ c v, s.rxAnswer = .byte c ∧ unescape p c = some v ∧ s.afterRx.store p.respLen v = t) ∨
    (∃ c, s.rxAnswer = .byte c ∧ unescape p c = none ∧ s.afterRx.complete (invalidResult .badEscape) = t) ∨
    (∃ e, s.rxAnswer = .err e ∧ s.afterRx.complete (transportResult e) = t) := by
  rw [rxEscStep, tryRx_eq_next, ← or_assoc]
  refine or_congr ⟨?_, ?_⟩ Iff.rfl
  · rintro ⟨c, hc, hk⟩
    cases hu : unescape p c <;> simp [hu, raiseInvalid] at hk
    · exact .inr ⟨c, hc, hu, hk⟩
    · exact .inl ⟨c, _, hc, hu, hk⟩
  · rintro (⟨c, v, hc, hu, rfl⟩ | ⟨c, hc, hu, rfl⟩) <;> exact ⟨c, hc, by simp [hu, raiseInvalid]⟩

theorem rxTrailStep_eq_next : rxTrailStep s = .next t ↔
    (∃ b, s.rxAnswer = .byte b ∧
      (if b = slipEnd then s.afterRx.goto .matching else s.afterRx.complete (invalidResult .badTrailer)) = t) ∨
    (∃ e, s.rxAnswer = .err e ∧ s.afterRx.complete (transportResult e) = t) := by
  simp only [rxTrailStep, raiseInvalid, tryRx_eq_next, ← apply_ite Host.Outcome.next, Host.Outcome.next.injEq]

/-! ## Await -/

theorem matchStep_eq_next {p : Params} : matchStep p s = .next t ↔
    (if frameMatches s.rb s.curCmd then s.goto .status
      else if discardExceeds p.maxDiscard s.ndisc then s.countDiscard.complete (invalidResult .discardLimit)
      else s.countDiscard.goto .rxHunt) = t := by
  simp only [matchStep, discardFrame, raiseInvalid, ← apply_ite Host.Outcome.next, Host.Outcome.next.injEq]

theorem statusStep_eq_next : statusStep s = .next t ↔
    (if statusFails s.rb then (s.emit (.diag (respCategory s.rb))).complete (invalidResult .deviceFailure)
      else s.complete (okResult s.want s.rb)) = t := by
  simp only [statusStep, completeOk, raiseInvalid, ← apply_ite Host.Outcome.next, Host.Outcome.next.injEq]

/-! ## Execute -/

/-- What BUILD does for a command. -/
def builder (i : Instr) (s : State) : State :=
  match i with
  | .sync => s.buildPlain defaultParams .sync syncMagic
  | .flashBegin a b c d => s.restartSeq.buildPlain defaultParams .flashBegin (le32 a ++ le32 b ++ le32 c ++ le32 d)
  | .flashData payload => s.buildData defaultParams .flashData payload
  | .flashEnd a => s.buildPlain defaultParams .flashEnd (le32 a)
  | .memBegin a b c d => s.restartSeq.buildPlain defaultParams .memBegin (le32 a ++ le32 b ++ le32 c ++ le32 d)
  | .memData payload => s.buildData defaultParams .memData payload
  | .memEnd a b => s.buildPlain defaultParams .memEnd (le32 a ++ le32 b)
  | .writeReg a b c d => s.buildPlain defaultParams .writeReg (le32 a ++ le32 b ++ le32 c ++ le32 d)
  | .readReg a => s.buildPlain defaultParams .readReg (le32 a)
  | .spiAttach a => s.buildPlain defaultParams .spiAttach (le32 a ++ le32 0)

/-- Every meaning is Execute over the command's builder. -/
theorem exec_eq_execute (i : Instr) (s : State) : exec i s = execute defaultParams i.toRequest (builder i) s := by
  cases i <;> rfl

/-- After BUILD the meaning no longer depends on which command's it is: the latch and BODY say all. -/
theorem exec_after_build (i j : Instr) (hi : s.ph ≠ .idle) (hb : s.ph ≠ .build) : exec i s = exec j s := by
  simp only [exec_eq_execute, execute]
  split <;> simp_all

end Sys2Proof.Machine
end

