-- ==== Sys2Proof/Laws/PerInstr.lean ====
section
/-! SUPPORT. One statement about every command as syntax: how its record begins, and how long it can be (spec/10_state.md R35,
30_encoding.md R102, R104, R116). -/

namespace Sys2Proof.Laws.RecordShape

/-- The record of a command begins with DIR_REQ and the command's id, and without its payload it has 12 to 44 bytes. -/
def Statement (i : Instr) : Prop :=
  ∀ seq : Word, (encode i seq).take 2 = [Machine.dirReq, i.cmd.id] ∧
    12 ≤ (i.header ++ i.fields seq).length ∧ (i.header ++ i.fields seq).length ≤ 44

theorem sync : Statement .sync :=
  fun _ => ⟨rfl, by simp [Instr.header, Instr.fields, le16, le32, Machine.syncMagic],
    by simp [Instr.header, Instr.fields, le16, le32, Machine.syncMagic]⟩

theorem flashBegin (eraseSize packetCount packetSize offset : Word) :
    Statement (.flashBegin eraseSize packetCount packetSize offset) :=
  fun _ => ⟨rfl, by simp [Instr.header, Instr.fields, le16, le32], by simp [Instr.header, Instr.fields, le16, le32]⟩

theorem flashData (payload : Bytes) : Statement (.flashData payload) :=
  fun _ => ⟨rfl, by simp [Instr.header, Instr.fields, le16, le32], by simp [Instr.header, Instr.fields, le16, le32]⟩

theorem flashEnd (stayInLoader : Word) : Statement (.flashEnd stayInLoader) :=
  fun _ => ⟨rfl, by simp [Instr.header, Instr.fields, le16, le32], by simp [Instr.header, Instr.fields, le16, le32]⟩

theorem memBegin (totalSize packetCount packetSize offset : Word) :
    Statement (.memBegin totalSize packetCount packetSize offset) :=
  fun _ => ⟨rfl, by simp [Instr.header, Instr.fields, le16, le32], by simp [Instr.header, Instr.fields, le16, le32]⟩

theorem memData (payload : Bytes) : Statement (.memData payload) :=
  fun _ => ⟨rfl, by simp [Instr.header, Instr.fields, le16, le32], by simp [Instr.header, Instr.fields, le16, le32]⟩

theorem memEnd (stayInLoader entryPoint : Word) : Statement (.memEnd stayInLoader entryPoint) :=
  fun _ => ⟨rfl, by simp [Instr.header, Instr.fields, le16, le32], by simp [Instr.header, Instr.fields, le16, le32]⟩

theorem writeReg (address value mask delay : Word) : Statement (.writeReg address value mask delay) :=
  fun _ => ⟨rfl, by simp [Instr.header, Instr.fields, le16, le32], by simp [Instr.header, Instr.fields, le16, le32]⟩

theorem readReg (address : Word) : Statement (.readReg address) :=
  fun _ => ⟨rfl, by simp [Instr.header, Instr.fields, le16, le32], by simp [Instr.header, Instr.fields, le16, le32]⟩

theorem spiAttach (configuration : Word) : Statement (.spiAttach configuration) :=
  fun _ => ⟨rfl, by simp [Instr.header, Instr.fields, le16, le32], by simp [Instr.header, Instr.fields, le16, le32]⟩

end Sys2Proof.Laws.RecordShape
end

