-- ==== Sys2Proof/Laws/Slip.lean ====
section
/-! SUPPORT. What the receive decoder makes of escaped bytes, one body byte at a time. -/

namespace Sys2Proof.Machine

/-- A body byte sent escaped is received as itself, where the pair DB DD decodes to DB (R151, R163). -/
theorem receiveData_esc1 {p : Params} (hp : p.escEscDecode = slipEsc) (n : Nat) (b : Byte) (answers : List RxAnswer) :
    receiveData p (n + 1) ((esc1 b).map .byte ++ answers) =
      (receiveData p n answers).map fun r => (r.store b).after ((esc1 b).map .byte) := by
  by_cases h1 : b = slipEnd
  · subst h1
    rfl
  · by_cases h2 : b = slipEsc
    · subst h2
      have hu : unescape p slipEscEsc = some slipEsc := by rw [unescape, if_neg (by decide), if_pos rfl, hp]
      simp only [esc1, escFirst, escSecond, or_true, if_true, if_neg h1, Option.toList_some, List.map_cons, List.map_nil,
        List.cons_append, List.nil_append, receiveData, hu]
    · simp only [esc1, escFirst, escSecond, h1, h2, or_self, if_false, Option.toList_none, List.map_cons, List.map_nil,
        List.cons_append, List.nil_append, receiveData]

end Sys2Proof.Machine
end

