-- ==== Sys2Proof/Laws/Step.lean ====
section
/-! SUPPORT. What one step can do, said once: exec phase by phase, step's two ways, what a busy step leaves alone, and runs step by
step. -/

namespace Sys2Proof.Machine

variable {s t : State} {i : Instr}

/-! ## exec, phase by phase -/

/-- The step of a command in a known phase. -/
theorem exec_of_ph {ph : Phase} (h : s.ph = ph) : exec i s = (match ph with
    | .idle => .next (s.accept i.toRequest)
    | .build => .next (builder i s)
    | .txLead => txLeadStep s
    | .txBody => txBodyStep s
    | .txTrail => txTrailStep s
    | .rxHunt => rxHuntStep s
    | .rxData => rxDataStep defaultParams s
    | .rxEsc => rxEscStep defaultParams s
    | .rxTrail => rxTrailStep s
    | .matching => matchStep defaultParams s
    | .status => statusStep s) := by
  rw [exec_eq_execute]
  unfold execute
  cases ph <;> simp [h]

/-- Everything exec can do when it answers a next state, one case a phase. -/
theorem exec_cases (h : exec i s = .next t) :
    (s.ph = .idle ∧ s.accept i.toRequest = t) ∨ (s.ph = .build ∧ builder i s = t) ∨
    (s.ph = .txLead ∧ txLeadStep s = .next t) ∨ (s.ph = .txBody ∧ txBodyStep s = .next t) ∨
    (s.ph = .txTrail ∧ txTrailStep s = .next t) ∨ (s.ph = .rxHunt ∧ rxHuntStep s = .next t) ∨
    (s.ph = .rxData ∧ rxDataStep defaultParams s = .next t) ∨ (s.ph = .rxEsc ∧ rxEscStep defaultParams s = .next t) ∨
    (s.ph = .rxTrail ∧ rxTrailStep s = .next t) ∨ (s.ph = .matching ∧ matchStep defaultParams s = .next t) ∨
    (s.ph = .status ∧ statusStep s = .next t) := by
  rw [exec_eq_execute] at h
  unfold execute at h
  split at h <;> simp_all

/-- What BUILD leaves alone, for every command: all but SEQ, BODY, CHK, PH and the changes its payload reads used up. -/
theorem builder_frame (i : Instr) (s : State) :
    (builder i s).ph = .txLead ∧ (builder i s).latched = s.latched ∧ (builder i s).want = s.want ∧
    (builder i s).len = s.len ∧ (builder i s).ti = s.ti ∧ (builder i s).escp = s.escp ∧ (builder i s).rb = s.rb ∧
    (builder i s).ri = s.ri ∧ (builder i s).ndisc = s.ndisc ∧ (builder i s).res = s.res ∧ (builder i s).reqs = s.reqs ∧
    (builder i s).txAns = s.txAns ∧ (builder i s).rxAns = s.rxAns ∧ (builder i s).rstIn = s.rstIn ∧
    (builder i s).draws = s.draws ∧ (builder i s).events = s.events := by
  cases i <;> exact ⟨rfl, rfl, rfl, rfl, rfl, rfl, rfl, rfl, rfl, rfl, rfl, rfl, rfl, rfl, rfl, rfl⟩

theorem builder_seq (i : Instr) (s : State) : (builder i s).seq = seqAfter i s.seq := by cases i <;> rfl

/-- After BUILD no step of a command but its completion's RES touches these: the latch, SEQ, BODY, CHK, the requests, the RST
schedule. -/
theorem exec_late_frame (hi : s.ph ≠ .idle) (hb : s.ph ≠ .build) (h : exec i s = .next t) :
    t.latched = s.latched ∧ t.want = s.want ∧ t.len = s.len ∧ t.seq = s.seq ∧ t.body = s.body ∧ t.chk = s.chk ∧
    t.reqs = s.reqs ∧ t.rstIn = s.rstIn := by
  cases hp : s.ph with
  | idle => exact absurd hp hi
  | build => exact absurd hp hb
  | txLead =>
    simp only [exec_of_ph hp, txLeadStep_eq_next] at h
    obtain ⟨_, rfl⟩ | ⟨_, _, rfl⟩ := h <;> simp [State.latched]
  | txBody =>
    simp only [exec_of_ph hp, txBodyStep_eq_next] at h
    obtain ⟨_, _, ⟨_, rfl⟩ | ⟨_, _, rfl⟩⟩ | ⟨_, _, ⟨_, rfl⟩ | ⟨_, _, rfl⟩⟩ := h <;>
      (try unfold txBodyDone) <;> (try split) <;> simp [State.latched]
  | txTrail =>
    simp only [exec_of_ph hp, txTrailStep_eq_next] at h
    obtain ⟨_, rfl⟩ | ⟨_, _, rfl⟩ := h <;> simp [State.latched]
  | rxHunt =>
    simp only [exec_of_ph hp, rxHuntStep_eq_next] at h
    obtain ⟨_, _, rfl⟩ | ⟨_, _, rfl⟩ := h <;> (try split) <;> simp [State.latched]
  | rxData =>
    simp only [exec_of_ph hp, rxDataStep_eq_next] at h
    obtain ⟨_, _, rfl⟩ | ⟨_, _, rfl⟩ := h <;> (try split) <;> simp [State.latched]
  | rxEsc =>
    simp only [exec_of_ph hp, rxEscStep_eq_next] at h
    obtain ⟨_, _, _, _, rfl⟩ | ⟨_, _, _, rfl⟩ | ⟨_, _, rfl⟩ := h <;> simp [State.latched]
  | rxTrail =>
    simp only [exec_of_ph hp, rxTrailStep_eq_next] at h
    obtain ⟨_, _, rfl⟩ | ⟨_, _, rfl⟩ := h <;> (try split) <;> simp [State.latched]
  | matching =>
    simp only [exec_of_ph hp, matchStep_eq_next] at h
    subst h
    split <;> (try split) <;> simp [State.latched]
  | status =>
    simp only [exec_of_ph hp, statusStep_eq_next] at h
    subst h
    split <;> simp [State.latched]

/-! ## step -/

/-- What IDLE can do: wait, or accept the request that stands first. -/
theorem idleStep_cases (h : idleStep s = .next t) :
    (s.reqs = [] ∧ t = s) ∨
    ∃ r rest c, s.reqs = r :: rest ∧ r.cmd = c.id ∧ decodeRequest r = .ok (instrOf c r) ∧ t = s.dropRequest.accept r := by
  unfold idleStep at h
  split at h
  · cases h
    exact .inl ⟨by assumption, rfl⟩
  · rename_i r rest hr
    cases hc : Cmd.ofId? r.cmd with
    | none => simp [decodeRequest, hc] at h
    | some c =>
      have hd : decodeRequest r = .ok (instrOf c r) := by simp [decodeRequest, hc]
      simp only [hd, Host.Outcome.next.injEq] at h
      exact .inr ⟨r, rest, c, hr, Cmd.ofId?_eq_some hc, hd, h.symm⟩

/-- A step without a pulse is IDLE's, or one of the command the latch holds. -/
theorem step_cases (hr : s.rstNow = false) (h : step s = .next t) :
    (s.ph = .idle ∧ idleStep s.takeRst = .next t) ∨ (s.ph ≠ .idle ∧ ∃ i, s.Holds i ∧ exec i s.takeRst = .next t) := by
  simp only [step, hr, Bool.false_eq_true, if_false, runStep, State.takeRst_ph] at h
  by_cases hi : s.ph = .idle
  · exact .inl ⟨hi, by simpa [hi] using h⟩
  · simp only [hi, if_false, busyStep] at h
    split at h
    · rename_i i hh
      exact .inr ⟨hi, i, hh, h⟩
    · cases h

theorem takeRst_of_nil (h : s.rstIn = []) : s.takeRst = s := by
  cases s
  simp only at h
  subst h
  rfl

/-! ## Runs -/

theorem run_zero (s : State) : run 0 s = .next s := rfl

/-- A run whose first step goes on. -/
theorem run_succ_of_next (h : step s = .next t) (k : Nat) : run (k + 1) s = run k t := by
  have h' : Sys2Proof.core.step s = .next t := h
  exact (Host.Core.run.eq_2 Sys2Proof.core s k).trans (by rw [h'])

/-- A run whose first step faults. -/
theorem run_succ_of_fault {f : Fault} (h : step s = .fault f) (k : Nat) : run (k + 1) s = .fault f := by
  have h' : Sys2Proof.core.step s = .fault f := h
  exact (Host.Core.run.eq_2 Sys2Proof.core s k).trans (by rw [h']; rfl)

/-- A run whose first step is refused. -/
theorem run_succ_of_refused {r : Refusal} (h : step s = .refused r) (k : Nat) : run (k + 1) s = .refused r := by
  have h' : Sys2Proof.core.step s = .refused r := h
  exact (Host.Core.run.eq_2 Sys2Proof.core s k).trans (by rw [h']; rfl)

/-- A run goes on from where a shorter one ended. -/
theorem run_add {k : Nat} (h : run k s = .next t) (n : Nat) : run (k + n) s = run n t := by
  induction k generalizing s with
  | zero => cases h; simp
  | succ k ih =>
    rw [Nat.succ_add]
    cases hs : step s with
    | next u => rw [run_succ_of_next hs] at h ⊢; exact ih h
    | fault f => rw [run_succ_of_fault hs] at h; cases h
    | refused r => rw [run_succ_of_refused hs] at h; cases h

end Sys2Proof.Machine
end

