-- ==== Sys2Proof/Tests/Slice0.lean ====
section
/-! SUPPORT. Tests. Expected bytes and outcomes come from spec/95_test_vectors.md (the vector's name stands in each comment) or are
written out from the encodings of spec/30_encoding.md and spec/opcode_table.json. After them, for every obligation with hypotheses, a
witness: a concrete state and operands that meet all of them. -/

namespace Sys2Proof.Tests

open Sys2Proof.Machine

/-! ## Helpers -/

/-- The outcome is a next state of which `p` holds. -/
def nextIs (o : Out) (p : State → Bool) : Bool :=
  match o with
  | .next t => p t
  | .fault _ => false
  | .refused _ => false

/-- A row of received bytes. -/
def rx (bs : Bytes) : List RxAnswer := bs.map .byte

/-- RSP(cmd, status, err, value) of spec/95_test_vectors.md section 2, for fields that need no escaping. -/
def rsp (id status err : Byte) (value : Word) : Bytes :=
  [0xC0, 0x01, id, 0x00, 0x00] ++ le32 value ++ [status, err, 0xC0]

/-- IDLE with these requests presented. -/
def asking (is : List Instr) : State := { State.reset with reqs := is.map Instr.toRequest }

/-- BUILD of a command, with SEQ = 9. -/
def building (i : Instr) : State := { State.reset.accept i.toRequest with seq := 9 }

/-- TX_LEAD of a command, its record built. -/
def leading (i : Instr) : State := builder i (building i)

/-- A phase after BUILD of READ_REG 0x60000078. -/
def reading (ph : Phase) : State := { leading (.readReg 0x60000078) with ph := ph }

/-- RX_DATA of position 3 of a READ_REG's response. -/
def atThree (ph : Phase) : State := { reading ph with ri := 3 }

/-- A matching frame of READ_REG has come, with this status and error code. -/
def answered (ph : Phase) (status err : Byte) : State :=
  { reading ph with ri := 10, rb := [0x01, 0x0A, 0x00, 0x00, 0xEF, 0xBE, 0xAD, 0xDE, status, err] }

/-- TX_LEAD of READ_REG 0x60000078, with these answers of the transport to come. -/
def sendingTo (answers : List TxAnswer) : State := { leading (.readReg 0x60000078) with txAns := answers }

/-- RX_HUNT of READ_REG 0x60000078, with these received bytes to come. -/
def hearing (answers : List RxAnswer) : State := { reading .rxHunt with rxAns := answers }

/-- IDLE with these requests presented and these answers of the environment to come. -/
def facing (is : List Instr) (txAns : List TxAnswer) (rxAns : List RxAnswer) : State :=
  { asking is with txAns := txAns, rxAns := rxAns }

/-- An error value of the transport. -/
def broken : TransportErr := ⟨7⟩

/-! ## WellFormed -/

/-- The check on a payload of a given length. -/
theorem wf_of_length (n : Nat) : (Instr.flashData (List.replicate n 0)).wf = decide (n < 2 ^ 32) ∧
    (Instr.memData (List.replicate n 0)).wf = decide (n < 2 ^ 32) := by
  simp only [Instr.wf, payloadFits, List.length_replicate, and_self]

theorem test_wf_refuses_overlong_flash_payload : (Instr.flashData (List.replicate (2 ^ 32) 0)).wf = false :=
  (wf_of_length _).1.trans (by decide)

theorem test_wf_refuses_overlong_mem_payload : (Instr.memData (List.replicate (2 ^ 32) 0)).wf = false :=
  (wf_of_length _).2.trans (by decide)

theorem test_wf_admits_longest_payload : (Instr.flashData (List.replicate (2 ^ 32 - 1) 0)).wf = true :=
  (wf_of_length _).1.trans (by decide)

/-! ## Decode: the header words of spec/opcode_table.json, bit 63 first -/

theorem test_word_sync :
    decodeTableWord 64 0b0000000000000000000000000000000000000000001001000000100000000000 = some .sync := by decide

theorem test_word_flashBegin :
    decodeTableWord 64 0b0000000000000000000000000000000000000000000100000000001000000000 = some (.flashBegin 0 0 0 0) := by
  decide

theorem test_word_flashData :
    decodeTableWord 64 0b0000000000000000000000001100000000000000000100000000001100000000 = some (.flashData []) := by decide

theorem test_word_flashEnd :
    decodeTableWord 64 0b0000000000000000000000000000000000000000000001000000010000000000 = some (.flashEnd 0) := by decide

theorem test_word_memBegin :
    decodeTableWord 64 0b0000000000000000000000000000000000000000000100000000010100000000 = some (.memBegin 0 0 0 0) := by decide

theorem test_word_memData :
    decodeTableWord 64 0b0000000000000000000000001101101100000000000100000000011100000000 = some (.memData []) := by decide

theorem test_word_memEnd :
    decodeTableWord 64 0b0000000000000000000000000000000000000000000010000000011000000000 = some (.memEnd 0 0) := by decide

theorem test_word_writeReg :
    decodeTableWord 64 0b0000000000000000000000000000000000000000000100000000100100000000 = some (.writeReg 0 0 0 0) := by decide

theorem test_word_readReg :
    decodeTableWord 64 0b0000000000000000000000000000000000000000000001000000101000000000 = some (.readReg 0) := by decide

theorem test_word_spiAttach :
    decodeTableWord 64 0b0000000000000000000000000000000000000000000010000000110100000000 = some (.spiAttach 0) := by decide

/-- Words no row covers: direction 01; ids 01, 0B, 0C, 0E; a wrong size; a checksum on a command without payload; a checksum field
wider than a byte. -/
theorem test_words_rejected_by_name :
    decodeHeader 0x0000000000240801 = .rejected (.badDirection 0x01) ∧
    decodeHeader 0x0000000000240100 = .rejected (.unknownCommand 0x01) ∧
    decodeHeader 0x0000000000040B00 = .rejected (.unknownCommand 0x0B) ∧
    decodeHeader 0x0000000000040C00 = .rejected (.unknownCommand 0x0C) ∧
    decodeHeader 0x0000000000040E00 = .rejected (.unknownCommand 0x0E) ∧
    decodeHeader 0x0000000000080A00 = .rejected (.badPayloadSize 8) ∧
    decodeHeader 0x0000000100040A00 = .rejected .badChecksum ∧
    decodeHeader 0x0000010000100300 = .rejected .badChecksum := by decide

/-! ## Records, both ways (95_test_vectors.md section 2.4) -/

theorem test_record_sync : -- V-B1
    encode .sync 9 = [0x00, 0x08, 0x24, 0x00, 0x00, 0x00, 0x00, 0x00, 0x07, 0x07, 0x12, 0x20] ++ List.replicate 32 0x55 ∧
    decodeRecord ([0x00, 0x08, 0x24, 0x00, 0x00, 0x00, 0x00, 0x00, 0x07, 0x07, 0x12, 0x20] ++ List.replicate 32 0x55) =
      .ok (.sync, none) := by decide

theorem test_record_flashBegin : -- V-B2
    encode (.flashBegin 0x1000 1 0x400 0) 9 = [0x00, 0x02, 0x10, 0x00, 0x00, 0x00, 0x00, 0x00, 0x00, 0x10, 0x00, 0x00, 0x01, 0x00,
      0x00, 0x00, 0x00, 0x04, 0x00, 0x00, 0x00, 0x00, 0x00, 0x00] ∧
    decodeRecord [0x00, 0x02, 0x10, 0x00, 0x00, 0x00, 0x00, 0x00, 0x00, 0x10, 0x00, 0x00, 0x01, 0x00,
      0x00, 0x00, 0x00, 0x04, 0x00, 0x00, 0x00, 0x00, 0x00, 0x00] = .ok (.flashBegin 0x1000 1 0x400 0, none) := by decide

theorem test_record_flashData : -- V-B3
    encode (.flashData [0x01, 0x02, 0x03, 0x04]) 0 = [0x00, 0x03, 0x10, 0x00, 0xEB, 0x00, 0x00, 0x00, 0x04, 0x00, 0x00, 0x00, 0x00,
      0x00, 0x00, 0x00, 0x00, 0x00, 0x00, 0x00, 0x00, 0x00, 0x00, 0x00, 0x01, 0x02, 0x03, 0x04] ∧
    decodeRecord [0x00, 0x03, 0x10, 0x00, 0xEB, 0x00, 0x00, 0x00, 0x04, 0x00, 0x00, 0x00, 0x00,
      0x00, 0x00, 0x00, 0x00, 0x00, 0x00, 0x00, 0x00, 0x00, 0x00, 0x00, 0x01, 0x02, 0x03, 0x04] =
      .ok (.flashData [0x01, 0x02, 0x03, 0x04], some 0) := by decide

theorem test_record_flashEnd : -- V-B4
    encode (.flashEnd 1) 9 = [0x00, 0x04, 0x04, 0x00, 0x00, 0x00, 0x00, 0x00, 0x01, 0x00, 0x00, 0x00] ∧
    decodeRecord [0x00, 0x04, 0x04, 0x00, 0x00, 0x00, 0x00, 0x00, 0x01, 0x00, 0x00, 0x00] = .ok (.flashEnd 1, none) := by decide

theorem test_record_memBegin : -- V-B5
    encode (.memBegin 0x200 1 0x200 0x3FFE0000) 9 = [0x00, 0x05, 0x10, 0x00, 0x00, 0x00, 0x00, 0x00, 0x00, 0x02, 0x00, 0x00, 0x01,
      0x00, 0x00, 0x00, 0x00, 0x02, 0x00, 0x00, 0x00, 0x00, 0xFE, 0x3F] ∧
    decodeRecord [0x00, 0x05, 0x10, 0x00, 0x00, 0x00, 0x00, 0x00, 0x00, 0x02, 0x00, 0x00, 0x01,
      0x00, 0x00, 0x00, 0x00, 0x02, 0x00, 0x00, 0x00, 0x00, 0xFE, 0x3F] =
      .ok (.memBegin 0x200 1 0x200 0x3FFE0000, none) := by decide

theorem test_record_memData : -- V-B6
    encode (.memData [0xC0, 0xDB, 0x00]) 0 = [0x00, 0x07, 0x10, 0x00, 0xF4, 0x00, 0x00, 0x00, 0x03, 0x00, 0x00, 0x00, 0x00, 0x00,
      0x00, 0x00, 0x00, 0x00, 0x00, 0x00, 0x00, 0x00, 0x00, 0x00, 0xC0, 0xDB, 0x00] ∧
    decodeRecord [0x00, 0x07, 0x10, 0x00, 0xF4, 0x00, 0x00, 0x00, 0x03, 0x00, 0x00, 0x00, 0x00, 0x00,
      0x00, 0x00, 0x00, 0x00, 0x00, 0x00, 0x00, 0x00, 0x00, 0x00, 0xC0, 0xDB, 0x00] =
      .ok (.memData [0xC0, 0xDB, 0x00], some 0) := by decide

theorem test_record_memEnd : -- V-B7
    encode (.memEnd 0 0x40080000) 9 = [0x00, 0x06, 0x08, 0x00, 0x00, 0x00, 0x00, 0x00, 0x00, 0x00, 0x00, 0x00, 0x00, 0x00, 0x08,
      0x40] ∧
    decodeRecord [0x00, 0x06, 0x08, 0x00, 0x00, 0x00, 0x00, 0x00, 0x00, 0x00, 0x00, 0x00, 0x00, 0x00, 0x08, 0x40] =
      .ok (.memEnd 0 0x40080000, none) := by decide

theorem test_record_readReg : -- V-B8
    encode (.readReg 0x60000078) 9 = [0x00, 0x0A, 0x04, 0x00, 0x00, 0x00, 0x00, 0x00, 0x78, 0x00, 0x00, 0x60] ∧
    decodeRecord [0x00, 0x0A, 0x04, 0x00, 0x00, 0x00, 0x00, 0x00, 0x78, 0x00, 0x00, 0x60] = .ok (.readReg 0x60000078, none) := by
  decide

theorem test_record_writeReg : -- V-B9
    encode (.writeReg 0x3FF00000 0xDB 0xFFFFFFFF 0) 9 = [0x00, 0x09, 0x10, 0x00, 0x00, 0x00, 0x00, 0x00, 0x00, 0x00, 0xF0, 0x3F,
      0xDB, 0x00, 0x00, 0x00, 0xFF, 0xFF, 0xFF, 0xFF, 0x00, 0x00, 0x00, 0x00] ∧
    decodeRecord [0x00, 0x09, 0x10, 0x00, 0x00, 0x00, 0x00, 0x00, 0x00, 0x00, 0xF0, 0x3F,
      0xDB, 0x00, 0x00, 0x00, 0xFF, 0xFF, 0xFF, 0xFF, 0x00, 0x00, 0x00, 0x00] =
      .ok (.writeReg 0x3FF00000 0xDB 0xFFFFFFFF 0, none) := by decide

theorem test_record_spiAttach : -- V-B10, V-B12
    encode (.spiAttach 0) 9 = [0x00, 0x0D, 0x08, 0x00] ++ List.replicate 12 0x00 ∧
    decodeRecord [0x00, 0x0D, 0x08, 0x00, 0x00, 0x00, 0x00, 0x00, 0x07, 0x00, 0x00, 0x00, 0x00, 0x00, 0x00, 0x00] =
      .ok (.spiAttach 7, none) ∧
    decodeRequest ⟨0x0D, 7, 0xFFFFFFFF, 0, 0, []⟩ = .ok (.spiAttach 7) := by decide

theorem test_record_empty_payload : -- V-B11
    encode (.flashData []) 0 = [0x00, 0x03, 0x10, 0x00, 0xEF, 0x00, 0x00, 0x00] ++ List.replicate 16 0x00 := by decide

/-- A reserved word that is not zero, a length that is not the payload's, a wrong checksum (R122, R107, R103). -/
theorem test_records_rejected :
    decodeRecord ([0x00, 0x0D, 0x08, 0x00, 0x00, 0x00, 0x00, 0x00, 0x07, 0x00, 0x00, 0x00, 0x00, 0x00, 0x00, 0x01]) =
      .rejected .badReserved ∧
    decodeRecord ([0x00, 0x03, 0x10, 0x00, 0xEF, 0x00, 0x00, 0x00, 0x01] ++ List.replicate 15 0x00) = .rejected .badLength ∧
    decodeRecord ([0x00, 0x03, 0x10, 0x00, 0xEE, 0x00, 0x00, 0x00] ++ List.replicate 16 0x00) = .rejected .badChecksum := by
  decide

/-! ## Checksum (section 2.3) and SEQ (section 2.5) -/

theorem test_checksum_vectors : -- V-C1 to V-C9
    checksum [] = 0xEF ∧ checksum [0x01, 0x02, 0x03, 0x04] = 0xEB ∧ checksum [0xEF] = 0x00 ∧ checksum [0x01, 0x02] = 0xEC ∧
    checksum [0x02, 0x01] = 0xEC ∧ checksum [0x2F] = 0xC0 ∧ checksum [0x34] = 0xDB ∧ checksum [0xAA, 0xAA] = 0xEF ∧
    checksum [0xC0, 0xDB, 0x00] = 0xF4 ∧ checksum [0xC0, 0x11, 0xDB, 0x22] = 0xC7 := by decide

theorem test_sequence_vectors : -- V-S1, V-S2, V-S4, V-S5, V-S7
    carriedSeqs [.flashBegin 0 0 0 0, .flashData [], .flashData [], .flashData [], .flashBegin 0 0 0 0, .flashData []] 9 =
      [0, 1, 2, 0] ∧
    carriedSeqs [.flashData []] 9 = [9] ∧
    carriedSeqs [.flashBegin 0 0 0 0, .flashData [], .memBegin 0 0 0 0, .flashData []] 9 = [0, 0] ∧
    carriedSeqs [.flashData [], .flashData []] 0xFFFFFFFF = [0xFFFFFFFF, 0] ∧
    carriedSeqs [.flashBegin 0 0 0 0, .flashData [], .flashEnd 0, .memData []] 9 = [0, 1] := by decide

/-! ## Escape encoder (section 2.1) and decoder (section 2.2) -/

theorem test_encoder_vectors : -- V-E1 to V-E5, R151's example
    frame [] = [0xC0, 0xC0] ∧ frame [0x01, 0x02, 0x03] = [0xC0, 0x01, 0x02, 0x03, 0xC0] ∧ frame [0xC0] = [0xC0, 0xDB, 0xDC, 0xC0] ∧
    frame [0xDB] = [0xC0, 0xDB, 0xDD, 0xC0] ∧ frame [0xDC, 0xDD] = [0xC0, 0xDC, 0xDD, 0xC0] ∧
    esc [0x01, 0xC0, 0xDB, 0xDD] = [0x01, 0xDB, 0xDC, 0xDB, 0xDD, 0xDD] := by decide

theorem test_escaped_checksum_byte : -- V-E6
    frame (encode (.flashData [0x2F]) 1) = [0xC0, 0x00, 0x03, 0x10, 0x00, 0xDB, 0xDC, 0x00, 0x00, 0x00, 0x01, 0x00, 0x00, 0x00, 0x01,
      0x00, 0x00, 0x00, 0x00, 0x00, 0x00, 0x00, 0x00, 0x00, 0x00, 0x00, 0x2F, 0xC0] := by decide

theorem test_decoder_successes : -- V-D1, V-D2, V-D3, V-D4, V-D8, V-D12
    frameReceive defaultParams 2 (rx [0xC0, 0x01, 0x02, 0xC0]) = some ⟨[0x01, 0x02], .good, rx [0xC0, 0x01, 0x02, 0xC0], []⟩ ∧
    frameReceive defaultParams 2 (rx [0x55, 0xAA, 0xDB, 0xC0, 0x01, 0x02, 0xC0]) =
      some ⟨[0x01, 0x02], .good, rx [0x55, 0xAA, 0xDB, 0xC0, 0x01, 0x02, 0xC0], []⟩ ∧
    frameReceive defaultParams 2 (rx [0xC0, 0xDB, 0xDD, 0x00, 0xC0]) =
      some ⟨[0xDB, 0x00], .good, rx [0xC0, 0xDB, 0xDD, 0x00, 0xC0], []⟩ ∧
    frameReceive defaultParams 2 (rx [0xC0, 0xDB, 0xDC, 0xDB, 0xDD, 0xC0]) =
      some ⟨[0xC0, 0xDB], .good, rx [0xC0, 0xDB, 0xDC, 0xDB, 0xDD, 0xC0], []⟩ ∧
    frameReceive defaultParams 2 (rx [0xC0, 0xC0, 0x01, 0xC0]) = some ⟨[0xC0, 0x01], .good, rx [0xC0, 0xC0, 0x01, 0xC0], []⟩ ∧
    frameReceive defaultParams 2 (rx [0xC0, 0x01, 0x02, 0xC0, 0xC0]) =
      some ⟨[0x01, 0x02], .good, rx [0xC0, 0x01, 0x02, 0xC0], rx [0xC0]⟩ := by decide

theorem test_decoder_failures : -- V-D5, V-D6, V-D7, V-D9, V-D10, V-D11
    frameReceive defaultParams 2 (rx [0xC0, 0xDB, 0x01, 0x02, 0xC0]) =
      some ⟨[], .badEscape, rx [0xC0, 0xDB, 0x01], rx [0x02, 0xC0]⟩ ∧
    frameReceive defaultParams 2 (rx [0xC0, 0xDB, 0xC0]) = some ⟨[], .badEscape, rx [0xC0, 0xDB, 0xC0], []⟩ ∧
    frameReceive defaultParams 2 (rx [0xC0, 0x01, 0x02, 0x03]) = some ⟨[0x01, 0x02], .badTrailer, rx [0xC0, 0x01, 0x02, 0x03], []⟩ ∧
    frameReceive defaultParams 2 [.err broken] = some ⟨[], .transport broken, [.err broken], []⟩ ∧
    frameReceive defaultParams 2 (rx [0xC0, 0x01, 0xDB] ++ [.err broken]) =
      some ⟨[0x01], .transport broken, rx [0xC0, 0x01, 0xDB] ++ [.err broken], []⟩ ∧
    frameReceive defaultParams 2 (rx [0xC0, 0x01, 0x02] ++ [.err broken]) =
      some ⟨[0x01, 0x02], .transport broken, rx [0xC0, 0x01, 0x02] ++ [.err broken], []⟩ := by decide

/-! ## Response matcher (section 2.6) -/

/-- The result, the diagnostics and the number of unread bytes of an Await. -/
def outcome (cmd : Byte) (want : Bool) (answers : List RxAnswer) : Option (Result × List PortEvent × Nat) :=
  (await defaultParams cmd want 9 0 answers).map fun a =>
    (a.result, a.events.filter fun e => !e.isTransfer && !e.isRes, a.rest.length)

theorem test_matcher_discards : -- V-M1, V-M2
    outcome 0x02 false (rx (rsp 0x08 0 0 0 ++ rsp 0x02 0 0 0)) = some (⟨.ok, none, none, .none⟩, [], 0) ∧
    outcome 0x08 false (rx ([0xC0, 0x00, 0x08] ++ List.replicate 8 0x00 ++ [0xC0] ++ rsp 0x08 0 0 0)) =
      some (⟨.ok, none, none, .none⟩, [], 0) := by decide

theorem test_matcher_failures : -- V-M3, V-M4, V-M11
    outcome 0x02 false (rx (rsp 0x02 0x01 0x05 0)) = some (⟨.invalidResponse, none, none, .deviceFailure⟩, [.diag .invalidCrc], 0) ∧
    outcome 0x08 false (rx (rsp 0x08 0x02 0x42 0)) = some (⟨.invalidResponse, none, none, .deviceFailure⟩, [.diag .unknown], 0) ∧
    outcome 0x0A true (rx (rsp 0x0A 0x01 0x08 0x1234)) =
      some (⟨.invalidResponse, none, none, .deviceFailure⟩, [.diag .flashWriteErr], 0) := by decide

theorem test_matcher_values : -- V-M5, V-M6, V-M9
    outcome 0x0A true (rx (rsp 0x0A 0 0 0xDEADBEEF)) = some (⟨.ok, none, some 0xDEADBEEF, .none⟩, [], 0) ∧
    outcome 0x09 false (rx (rsp 0x09 0 0 0x55AA)) = some (⟨.ok, none, none, .none⟩, [], 0) ∧
    outcome 0x0A true (rx (rsp 0x0A 0 0x07 5)) = some (⟨.ok, none, some 5, .none⟩, [], 0) := by decide

theorem test_matcher_framing_errors : -- V-M7, V-M8, V-M10
    outcome 0x0A true (rx [0xC0, 0x01, 0x08, 0x00, 0xDB, 0x05, 0x00]) = some (⟨.invalidResponse, none, none, .badEscape⟩, [], 1) ∧
    outcome 0x0A true (rx ([0xC0, 0x01, 0x0A] ++ List.replicate 10 0x00 ++ [0xC0])) =
      some (⟨.invalidResponse, none, none, .badTrailer⟩, [], 2) ∧
    outcome 0x08 false (rx (rsp 0x04 0 0 0 ++ rsp 0x04 0 0 0) ++ [.err broken]) =
      some (⟨.transportError, some broken, none, .none⟩, [], 0) := by decide

/-! ## One step of each command: its acceptance from a table word, and its BUILD from SEQ = 9 -/

/-- The next step after this table word accepts the command of this id. -/
def acceptsWord (w : Nat) (id : Byte) : Bool :=
  nextIs (step (State.reset.withFetchWord 64 w)) fun t => t.ph = .build ∧ t.curCmd = id ∧ t.want = decide (id = 0x0A) ∧ t.seq = 0

theorem test_step_sync : acceptsWord 0x240800 0x08 = true := by decide
theorem test_step_flashBegin : acceptsWord 0x100200 0x02 = true := by decide
theorem test_step_flashData : acceptsWord 0xEF00100300 0x03 = true := by decide
theorem test_step_flashEnd : acceptsWord 0x040400 0x04 = true := by decide
theorem test_step_memBegin : acceptsWord 0x100500 0x05 = true := by decide
theorem test_step_memData : acceptsWord 0x1200100700 0x07 = true := by decide
theorem test_step_memEnd : acceptsWord 0x080600 0x06 = true := by decide
theorem test_step_writeReg : acceptsWord 0x100900 0x09 = true := by decide
theorem test_step_readReg : acceptsWord 0x040A00 0x0A = true := by decide
theorem test_step_spiAttach : acceptsWord 0x080D00 0x0D = true := by decide

/-- BUILD of a command writes this record and leaves this SEQ. -/
def buildsTo (i : Instr) (body : Bytes) (seq : Word) : Bool :=
  nextIs (step (building i)) fun t => t.body = body ∧ t.seq = seq ∧ t.ph = .txLead ∧ t.events = []

theorem test_build_sync :
    buildsTo .sync ([0x00, 0x08, 0x24, 0x00, 0x00, 0x00, 0x00, 0x00, 0x07, 0x07, 0x12, 0x20] ++ List.replicate 32 0x55) 9 = true := by
  decide
theorem test_build_flashBegin : -- SEQ <- 0
    buildsTo (.flashBegin 0x2000 2 0x1000 0x10000) [0x00, 0x02, 0x10, 0x00, 0x00, 0x00, 0x00, 0x00, 0x00, 0x20, 0x00, 0x00, 0x02, 0x00,
      0x00, 0x00, 0x00, 0x10, 0x00, 0x00, 0x00, 0x00, 0x01, 0x00] 0 = true := by decide
theorem test_build_flashData : -- program L-2's first payload, as packet 9
    buildsTo (.flashData [0xC0, 0x11, 0xDB, 0x22]) [0x00, 0x03, 0x10, 0x00, 0xC7, 0x00, 0x00, 0x00, 0x04, 0x00, 0x00, 0x00, 0x09, 0x00,
      0x00, 0x00, 0x00, 0x00, 0x00, 0x00, 0x00, 0x00, 0x00, 0x00] 10 = true := by decide
theorem test_build_flashEnd : -- a flag word of R222
    buildsTo (.flashEnd 0x12345678) [0x00, 0x04, 0x04, 0x00, 0x00, 0x00, 0x00, 0x00, 0x78, 0x56, 0x34, 0x12] 9 = true := by decide
theorem test_build_memBegin : -- SEQ <- 0
    buildsTo (.memBegin 0x200 1 0x200 0x3FFE0000) [0x00, 0x05, 0x10, 0x00, 0x00, 0x00, 0x00, 0x00, 0x00, 0x02, 0x00, 0x00, 0x01, 0x00,
      0x00, 0x00, 0x00, 0x02, 0x00, 0x00, 0x00, 0x00, 0xFE, 0x3F] 0 = true := by decide
theorem test_build_memData : -- the payload of V-B6, as packet 9
    buildsTo (.memData [0xC0, 0xDB, 0x00]) [0x00, 0x07, 0x10, 0x00, 0xF4, 0x00, 0x00, 0x00, 0x03, 0x00, 0x00, 0x00, 0x09, 0x00,
      0x00, 0x00, 0x00, 0x00, 0x00, 0x00, 0x00, 0x00, 0x00, 0x00] 10 = true := by decide
theorem test_build_memEnd :
    buildsTo (.memEnd 1 0x40080000) [0x00, 0x06, 0x08, 0x00, 0x00, 0x00, 0x00, 0x00, 0x01, 0x00, 0x00, 0x00, 0x00, 0x00, 0x08, 0x40] 9
      = true := by decide
theorem test_build_writeReg : -- four different words
    buildsTo (.writeReg 1 2 3 4) [0x00, 0x09, 0x10, 0x00, 0x00, 0x00, 0x00, 0x00, 0x01, 0x00, 0x00, 0x00, 0x02, 0x00, 0x00, 0x00,
      0x03, 0x00, 0x00, 0x00, 0x04, 0x00, 0x00, 0x00] 9 = true := by decide
theorem test_build_readReg :
    buildsTo (.readReg 0x3FF0007C) [0x00, 0x0A, 0x04, 0x00, 0x00, 0x00, 0x00, 0x00, 0x7C, 0x00, 0xF0, 0x3F] 9 = true := by decide
theorem test_build_spiAttach :
    buildsTo (.spiAttach 7) [0x00, 0x0D, 0x08, 0x00, 0x00, 0x00, 0x00, 0x00, 0x07, 0x00, 0x00, 0x00, 0x00, 0x00, 0x00, 0x00] 9 = true := by
  decide

/-- R400's codes. -/
theorem test_result_codes :
    [ResKind.ok, .transportError, .invalidResponse].map ResKind.code = [0, 1, 2] ∧
    [ResCause.none, .badEscape, .badTrailer, .deviceFailure, .discardLimit].map ResCause.code = [0, 1, 2, 3, 4] := by decide

/-- V-B13: a request with req_cmd 01 is refused. -/
theorem test_step_refuses_unknown_command :
    step { State.reset with reqs := [⟨0x01, 0, 0, 0, 0, []⟩] } = .refused (.unknownCommand 0x01) := by rfl

/-- A word the table rejects is refused as the next command. -/
theorem test_step_refuses_rejected_word : step (State.reset.withFetchWord 64 0x240801) = .refused (.unknownCommand 0x00) := by rfl

/-! ## Witnesses: for each obligation with hypotheses, a state and operands that meet them all -/

theorem witness_OpcodeTableRowsAreDisjoint :
    (⟨0xFFFFFF00FFFFFFFF, 0x0000000000100300, .flashData⟩ : TableRow) ∈ opcodeTable ∧
    (⟨0xFFFFFF00FFFFFFFF, 0x0000000000100300, .flashData⟩ : TableRow).covers 0x000000FF00100300 = true := by decide

theorem witness_RequestDecodesToItsCommand : (Instr.flashData [0xC0, 0xDB]).wf = true ∧ (Instr.memEnd 0 0xFFFFFFFF).wf = true := by
  decide

theorem witness_RecordDecodesToItsCommand : (Instr.memData []).wf = true ∧ (Instr.spiAttach 0xFFFFFFFF).wf = true := by decide

theorem witness_RecordsAreCanonical :
    decodeRecord [0x00, 0x0A, 0x04, 0x00, 0x00, 0x00, 0x00, 0x00, 0xFF, 0xFF, 0xFF, 0xFF] = .ok (.readReg 0xFFFFFFFF, none) := by
  decide

theorem witness_RecordLengthIsHeaderFieldsPayload :
    (Instr.readReg 0).cmd.isData = false ∧ (Instr.flashData []).cmd.isData = true := by decide

theorem witness_BuiltHeaderIsTheTableWord : ∃ t, (building (.flashData [0x2F])).ph = .build ∧
    exec (.flashData [0x2F]) (building (.flashData [0x2F])) = .next t ∧
    ∃ fields, t.body = 0x00 :: 0x03 :: 0x10 :: 0x00 :: 0xC0 :: 0x00 :: 0x00 :: 0x00 :: fields := ⟨_, rfl, rfl, _, rfl⟩

theorem witness_RequestsAreAcceptedInIdleOnly_accept :
    (asking [.flashData [0xC0], .sync]).rstNow = false ∧ (asking [.flashData [0xC0], .sync]).ph = .idle ∧
    (asking [.flashData [0xC0], .sync]).reqs = [(Instr.flashData [0xC0]).toRequest, Instr.sync.toRequest] ∧
    (Instr.flashData [0xC0]).toRequest.cmd = Cmd.flashData.id ∧ (Instr.flashData [0xC0]).toRequest.pay.length < 2 ^ 32 := by decide

theorem witness_RequestsAreAcceptedInIdleOnly_busy : ∃ t, (building .sync).rstNow = false ∧ (building .sync).ph ≠ .idle ∧
    step (building .sync) = .next t := ⟨_, rfl, by decide, rfl⟩

theorem witness_AcceptanceLatchesTheArguments :
    (asking [.writeReg 1 2 3 4]).rstNow = false ∧ (asking [.writeReg 1 2 3 4]).ph = .idle ∧
    (asking [.writeReg 1 2 3 4]).reqs = [(Instr.writeReg 1 2 3 4).toRequest] ∧
    (Instr.writeReg 1 2 3 4).toRequest.cmd = Cmd.writeReg.id := by decide

/-- At the ids next to the ten. -/
theorem witness_UnknownCommandIdsAreRefused : ∀ b ∈ ([0x00, 0x01, 0x0B, 0x0C, 0x0E, 0xFF] : List Byte),
    let s := { State.reset with reqs := [⟨b, 0, 0, 0, 0, []⟩] }
    s.rstNow = false ∧ s.ph = .idle ∧ s.reqs = [⟨b, 0, 0, 0, 0, []⟩] ∧
    b ∉ ([0x02, 0x03, 0x04, 0x05, 0x06, 0x07, 0x08, 0x09, 0x0A, 0x0D] : List Byte) := by decide

theorem witness_IdleWaitsForARequest : State.reset.rstNow = false ∧ State.reset.ph = .idle ∧ State.reset.reqs = [] := by decide

theorem witness_StepRunsTheDecodedCommand_idle :
    (asking [.readReg 5]).rstNow = false ∧ (asking [.readReg 5]).ph = .idle ∧ (Instr.readReg 5).wf = true ∧
    (asking [.readReg 5]).reqs = [(Instr.readReg 5).toRequest] := by decide

theorem witness_StepRunsTheDecodedCommand_busy : ∃ t,
    (building (.memData [0xDB])).rstNow = false ∧ (building (.memData [0xDB])).ph ≠ .idle ∧
    (building (.memData [0xDB])).Holds (.memData [0xDB]) ∧
    exec (.memData [0xDB]) (building (.memData [0xDB])) = .next t := ⟨_, rfl, by decide, rfl, rfl⟩

theorem witness_StepRunsTheDecodedCommand_latch : decodeRequest ⟨0x0D, 7, 8, 9, 10, [0x01]⟩ = .ok (.spiAttach 7) := by decide

theorem witness_FetchWordIsTheNextCommand : decodeTableWord 64 0xDB00100700 = some (.memData []) := by decide

/-- A state in BUILD, for the statements about BUILD. -/
theorem witness_SyncBuildsTheMagicRecord : (building .sync).ph = .build := rfl
theorem witness_BeginCommandsRestartSeqAndBuild : (building (.flashBegin 1 2 3 4)).ph = .build := rfl
theorem witness_EndCommandsBuildVerbatimWords : (building (.memEnd 1 2)).ph = .build := rfl
theorem witness_RegisterCommandsBuildVerbatimWords : (building (.writeReg 1 2 3 4)).ph = .build := rfl
theorem witness_SpiAttachBuildsAZeroSecondWord :
    (building (.spiAttach 1)).ph = .build ∧ (⟨0x0D, 1, 2, 3, 4, []⟩ : Request).cmd = 0x0D := ⟨rfl, rfl⟩
theorem witness_BuilderWritesTheRecord : (building (.readReg 1)).ph = .build ∧ (building (.readReg 1)).payChg = [] := ⟨rfl, rfl⟩

theorem witness_DataCommandsNumberAndCheckThePacket :
    (building (.memData [0x34])).ph = .build ∧ (building (.memData [0x34])).payChg = [] ∧
    (0xDB : Byte) = [(0x34 : Byte)].foldl (fun acc b => acc ^^^ b) 0xEF ∧
    (Instr.memData [0x34] = .flashData [0x34] ∧ (0x07 : Byte) = 0x03 ∨ Instr.memData [0x34] = .memData [0x34] ∧ (0x07 : Byte) = 0x07) := by
  decide

theorem witness_ChangedPayloadGivesAnyByteAtEachRead_build :
    let s := { building (.flashData [0x01, 0x02]) with payChg := [some 0xC0, some 0x00, some 0x05] }
    s.ph = .build ∧ ([0xC0, 0x00] : Bytes).length = ([0x01, 0x02] : Bytes).length ∧
    s.payChg = ([0xC0, 0x00] : Bytes).map some ++ [some 0x05] := by decide

theorem witness_ChangedPayloadGivesAnyByteAtEachRead_send :
    let s := { leading (.flashData [0x01]) with ph := .txBody, ti := 24, payChg := [some 0xC0], txAns := [.ok] }
    s.ph = .txBody ∧ s.escp = none ∧ s.body.length ≤ s.ti ∧ s.ti < s.sendTotal ∧ s.payChg = some 0xC0 :: [] ∧
    s.txAns = .ok :: [] := by decide

theorem witness_OnlyBeginAndDataBuildsChangeSeq : ∃ t u,
    (building (.flashData [])).rstNow = false ∧ step (building (.flashData [])) = .next t ∧ t.seq ≠ (building (.flashData [])).seq ∧
    (building (.memBegin 1 2 3 4)).rstNow = false ∧ step (building (.memBegin 1 2 3 4)) = .next u ∧
    u.seq ≠ (building (.memBegin 1 2 3 4)).seq := ⟨_, _, rfl, rfl, by decide, rfl, rfl, by decide⟩

theorem witness_OnlyDataBuildsReadSeq : ∃ t u,
    ((Instr.flashEnd 1).cmd.isData = true → (building (.flashEnd 1)).ph ≠ .build) ∧
    exec (.flashEnd 1) (building (.flashEnd 1)) = .next t ∧
    ((Instr.memData []).cmd.isData = true → (answered .matching 0 0).ph ≠ .build) ∧
    exec (.memData []) (answered .matching 0 0) = .next u := ⟨_, _, by decide, rfl, by decide, rfl⟩

theorem witness_DataPacketsAreNumberedFromTheBegin :
    (Instr.memBegin 0 0 0 0).cmd.isBegin = true ∧
    ∀ i ∈ ([.flashData [], .flashEnd 0, .memData [0x01]] : List Instr), i.cmd.isBegin = false := by decide

theorem witness_ChecksumIsOrderInsensitive : ([0x01, 0x02] : Bytes).Perm [0x02, 0x01] := by decide

theorem witness_FrameWithoutSpecialBytesIsVerbatim :
    ∀ b ∈ ([0xBF, 0xC1, 0xDA, 0xDC, 0xDD] : Bytes), b ≠ 0xC0 ∧ b ≠ 0xDB := by decide

theorem witness_EscapedBodyLengthAndShape : esc [0x01, 0xC0] = [0x01] ++ 0xDB :: [0xDC] ∧ esc [0xDB] = [] ++ 0xDB :: [0xDD] := by decide

/-! ### FrameSend -/

theorem sendingTo_inv (answers : List TxAnswer) : (sendingTo answers).Inv :=
  ⟨rfl, Nat.zero_le _, (by rintro (h | h) <;> cases h), (by rintro (h | h | h) <;> cases h), rfl, ⟨Nat.le_refl 12, (by decide : (12 : Nat) ≤ 44)⟩,
    .inl rfl, fun _ => ⟨.readReg, ⟨rfl, rfl⟩, fun _ => ⟨rfl, rfl⟩⟩, fun _ => rfl, fun h => Phase.noConfusion h, fun h => Phase.noConfusion h⟩

theorem witness_TransmitPhasesOfferOneByte :
    (∃ s : State, s.txAns = [.ok] ∧ s.ph = .txLead) ∧ (∃ s : State, s.txAns = [.ok] ∧ s.ph = .txTrail) ∧
    (∃ s : State, s.txAns = [.ok] ∧ s.ph = .txBody ∧ s.escp = some 0xDC) ∧
    (∃ s : State, s.txAns = [.ok] ∧ s.ph = .txBody ∧ s.escp = none ∧ s.ti < s.sendTotal ∧ s.payChg = [] ∧ (0x60 : Byte) = s.sendByte ∧
      s.ti + 1 = s.sendTotal) ∧
    (∃ s : State, s.txAns = [.ok] ∧ s.ph = .txBody ∧ s.escp = none ∧ s.ti < s.sendTotal ∧ s.payChg = [] ∧ (0xC0 : Byte) = s.sendByte) :=
  ⟨⟨{ reading .txLead with txAns := [.ok] }, by decide⟩, ⟨{ reading .txTrail with txAns := [.ok] }, by decide⟩,
    ⟨{ reading .txBody with txAns := [.ok], escp := some 0xDC }, by decide⟩,
    ⟨{ reading .txBody with txAns := [.ok], ti := 11 }, by decide⟩,
    ⟨{ leading (.flashData [0xC0]) with ph := .txBody, txAns := [.ok], ti := 24 }, by decide⟩⟩

theorem witness_FrameSendTransmitsTheWholeFrame_sent :
    let s := sendingTo (List.replicate 14 .ok)
    s.Inv ∧ s.Holds (.readReg 0x60000078) ∧ s.ph = .txLead ∧ s.rstIn = [] ∧ s.payChg = [] ∧
    ∃ sent, sendWire (frame (s.body ++ (Instr.readReg 0x60000078).payload)) s.txAns = some sent ∧ sent.err = none :=
  ⟨sendingTo_inv _, rfl, rfl, rfl, rfl, _, rfl, rfl⟩

theorem witness_FrameSendTransmitsTheWholeFrame_failed :
    let s := sendingTo [.ok, .err broken]
    s.Inv ∧ s.Holds (.readReg 0x60000078) ∧ s.ph = .txLead ∧ s.rstIn = [] ∧ s.payChg = [] ∧
    ∃ sent, sendWire (frame (s.body ++ (Instr.readReg 0x60000078).payload)) s.txAns = some sent ∧ sent.err = some broken :=
  ⟨sendingTo_inv _, rfl, rfl, rfl, rfl, _, rfl, rfl⟩

/-- At the first and at the last byte of the frame. -/
theorem witness_TransmitFailureEndsTheCommand : ∀ k ∈ [0, 13],
    let s := sendingTo (List.replicate k .ok ++ [.err broken])
    s.Inv ∧ s.Holds (.readReg 0x60000078) ∧ s.ph = .txLead ∧ s.rstIn = [] ∧ s.payChg = [] ∧
    (frame (s.body ++ (Instr.readReg 0x60000078).payload))[k]? = some 0xC0 ∧
    s.txAns = List.replicate k .ok ++ .err broken :: [] := by
  intro k hk
  refine ⟨sendingTo_inv _, rfl, rfl, rfl, rfl, ?_, rfl⟩
  revert k
  decide

/-! ### FrameReceive -/

theorem witness_ReceivePhasesTakeOneByte :
    (∃ s : State, s.rxAns = [.byte 0xC0] ∧ s.ph = .rxHunt) ∧ (∃ s : State, s.rxAns = [.byte 0xDB] ∧ s.ph = .rxHunt) ∧
    (∃ s : State, s.rxAns = [.byte 0xDB] ∧ s.ph = .rxData) ∧ (∃ s : State, s.rxAns = [.byte 0xC0] ∧ s.ph = .rxData) ∧
    (∃ s : State, s.rxAns = [.byte 0xDC] ∧ s.ph = .rxEsc) ∧ (∃ s : State, s.rxAns = [.byte 0xDD] ∧ s.ph = .rxEsc) ∧
    (∃ s : State, s.rxAns = [.byte 0xC0] ∧ s.ph = .rxEsc ∧ (0xC0 : Byte) ≠ 0xDC ∧ (0xC0 : Byte) ≠ 0xDD) ∧
    (∃ s : State, s.rxAns = [.byte 0xC0] ∧ s.ph = .rxTrail) ∧
    (∃ s : State, s.rxAns = [.byte 0x00] ∧ s.ph = .rxTrail ∧ (0x00 : Byte) ≠ 0xC0) :=
  ⟨⟨{ reading .rxHunt with rxAns := rx [0xC0] }, by decide⟩, ⟨{ reading .rxHunt with rxAns := rx [0xDB] }, by decide⟩,
    ⟨{ atThree .rxData with rxAns := rx [0xDB] }, by decide⟩, ⟨{ atThree .rxData with rxAns := rx [0xC0] }, by decide⟩,
    ⟨{ atThree .rxEsc with rxAns := rx [0xDC] }, by decide⟩, ⟨{ atThree .rxEsc with rxAns := rx [0xDD] }, by decide⟩,
    ⟨{ atThree .rxEsc with rxAns := rx [0xC0] }, by decide⟩, ⟨{ answered .rxTrail 0 0 with rxAns := rx [0xC0] }, by decide⟩,
    ⟨{ answered .rxTrail 0 0 with rxAns := rx [0x00] }, by decide⟩⟩

theorem witness_ReceiveErrorEndsTheCommand : ∀ ph ∈ [Phase.rxHunt, .rxData, .rxEsc, .rxTrail],
    let s := { atThree ph with rxAns := [.err broken] }
    s.rxAns = [.err broken] ∧ (s.ph = .rxHunt ∨ s.ph = .rxData ∨ s.ph = .rxEsc ∨ s.ph = .rxTrail) := by decide

theorem witness_MachineReceivesAsFrameReceive_good : ∃ r,
    (hearing (rx (rsp 0x0A 0 0 0x12345678))).Holds (.readReg 0x60000078) ∧ (hearing (rx (rsp 0x0A 0 0 0x12345678))).ph = .rxHunt ∧
    (hearing (rx (rsp 0x0A 0 0 0x12345678))).rstIn = [] ∧ (hearing (rx (rsp 0x0A 0 0 0x12345678))).rb.length = 10 ∧
    frameReceive defaultParams 10 (hearing (rx (rsp 0x0A 0 0 0x12345678))).rxAns = some r ∧ r.fin = .good :=
  ⟨_, rfl, rfl, rfl, rfl, rfl, rfl⟩

theorem witness_MachineReceivesAsFrameReceive_failures :
    (∃ r, frameReceive defaultParams 10 (hearing [.err broken]).rxAns = some r ∧ r.fin = .transport broken) ∧
    (∃ r, frameReceive defaultParams 10 (hearing (rx [0x55, 0xC0, 0x01, 0xDB, 0x01])).rxAns = some r ∧ r.fin = .badEscape) ∧
    (∃ r, frameReceive defaultParams 10 (hearing (rx ([0xC0] ++ List.replicate 11 0))).rxAns = some r ∧ r.fin = .badTrailer) :=
  ⟨⟨_, rfl, rfl⟩, ⟨_, rfl, rfl⟩, ⟨_, rfl, rfl⟩⟩

theorem witness_FrameRoundTrip :
    defaultParams.escEscDecode = 0xDB ∧ ({ defaultParams with escEscDecode := 0xBD } : Params).escEscDecode ≠ 0xDB := by decide

theorem witness_HuntDiscardsAndEndIsData :
    (0xC0 : Byte) ∉ ([0x55, 0xDB, 0x00] : Bytes) ∧ (0xDB : Byte) ∉ ([0xC0, 0x01, 0xC0] : Bytes) := by decide

theorem witness_LostAlignmentFailsTheTrailer :
    (0xDB : Byte) ∉ ([0x01, 0x0A, 0x00, 0x00, 0x78, 0x56, 0x34, 0x12, 0x00] : Bytes) := by decide

theorem witness_FirstFailureIsReported :
    ([0x01, 0xC0] : Bytes).length < 10 ∧ (0xDB : Byte) ≠ 0xDC ∧ (0xDB : Byte) ≠ 0xDD := by decide

/-! ### Await -/

theorem witness_MatchTestsDirectionAndId :
    (answered .matching 0 0).ph = .matching ∧ (answered .matching 0 0).rb[0]? = some 0x01 ∧
    (answered .matching 0 0).rb[1]? = some 0x0A ∧ (0x0A : Byte) = (answered .matching 0 0).curCmd := by decide

/-- Unbounded, and at the bound 0. -/
theorem witness_BoundedDiscardsEndTheCommand :
    defaultParams.escEscDecode = 0xDB ∧
    (∀ x ∈ ([[0x01, 0x08, 0, 0, 0, 0, 0, 0, 0, 0]] : List Bytes), x.length = defaultParams.respLen ∧ frameMatches x 0x0A = false) ∧
    defaultParams.maxDiscard = none ∧ ({ defaultParams with maxDiscard := some 0 } : Params).maxDiscard = some 0 ∧
    ([[0x01, 0x08, 0, 0, 0, 0, 0, 0, 0, 0]] : List Bytes).length = (0 : Word).toNat + 1 := by decide

theorem witness_StatusByteDecidesTheResult :
    (answered .status 0x00 0x07).ph = .status ∧
    (answered .status 0x00 0x07).rb = [0x01, 0x0A, 0x00, 0x00, 0xEF, 0xBE, 0xAD, 0xDE, 0x00, 0x07] ∧
    (answered .status 0xFF 0x0B).ph = .status ∧
    (answered .status 0xFF 0x0B).rb = [0x01, 0x0A, 0x00, 0x00, 0xEF, 0xBE, 0xAD, 0xDE, 0xFF, 0x0B] := by decide

theorem witness_ErrorCodeCategories :
    (0x04 : Byte) ∉ ([0x05, 0x06, 0x07, 0x08, 0x09, 0x0A, 0x0B] : List Byte) ∧
    (0x0C : Byte) ∉ ([0x05, 0x06, 0x07, 0x08, 0x09, 0x0A, 0x0B] : List Byte) := by decide

theorem witness_MachineAwaitsAsAwait :
    let s := hearing (rx (rsp 0x08 0 0 0 ++ rsp 0x0A 0 0 5))
    s.Holds (.readReg 0x60000078) ∧ s.ph = .rxHunt ∧ s.rstIn = [] ∧ s.rb.length = 10 ∧
    (await defaultParams s.curCmd s.want 2 s.ndisc s.rxAns).isSome = true := ⟨rfl, rfl, rfl, rfl, by decide⟩

/-! ### Whole commands -/

theorem facing_inv (is : List Instr) (txAns : List TxAnswer) (rxAns : List RxAnswer) : (facing is txAns rxAns).Inv :=
  ⟨rfl, Nat.zero_le _, (by rintro (h | h) <;> cases h), (by rintro (h | h | h) <;> cases h), rfl, ⟨Nat.le_refl 12, (by decide : (12 : Nat) ≤ 44)⟩,
    .inl rfl, fun h => absurd rfl h, fun h => absurd rfl h, fun h => Phase.noConfusion h, fun h => Phase.noConfusion h⟩

theorem witness_MachineExecutesEachCommand :
    let s := facing [.readReg 0x60000078] (List.replicate 14 .ok) (rx (rsp 0x0A 0 0 0xDEADBEEF))
    s.Inv ∧ (Instr.readReg 0x60000078).wf = true ∧ s.ph = .idle ∧ s.rstIn = [] ∧ s.payChg = [] ∧
    s.reqs = [(Instr.readReg 0x60000078).toRequest] ∧
    (executed defaultParams (.readReg 0x60000078) s.seq s.txAns s.rxAns).isSome = true :=
  ⟨facing_inv _ _ _, rfl, rfl, rfl, rfl, rfl, by decide⟩

/-- The first command fails on the transport, the second completes. -/
theorem witness_MachineRunsCommandsInSequence :
    let is : List Instr := [.flashEnd 1, .readReg 2]
    let s := facing is (.err broken :: List.replicate 14 .ok) (rx (rsp 0x0A 0 0 1))
    s.Inv ∧ (∀ i ∈ is, i.wf = true) ∧ s.ph = .idle ∧ s.rstIn = [] ∧ s.payChg = [] ∧ s.reqs = is.map Instr.toRequest ∧
    (Machine.session defaultParams is s.seq s.txAns s.rxAns).isSome = true :=
  ⟨facing_inv _ _ _, by decide, rfl, rfl, rfl, rfl, by decide⟩

theorem witness_MatchingFrameCompletesTheCommand :
    let s := facing [.readReg 2] (List.replicate 14 .ok ++ [.err broken]) (rx (rsp 0x0A 0 0 1 ++ [0xC0]))
    s.Inv ∧ (Instr.readReg 2).wf = true ∧ s.ph = .idle ∧ s.rstIn = [] ∧ s.payChg = [] ∧ s.reqs = [(Instr.readReg 2).toRequest] ∧
    s.txAns = List.replicate (frame (encode (.readReg 2) s.seq)).length TxAnswer.ok ++ [TxAnswer.err broken] ∧
    s.rxAns = (frame [0x01, Cmd.readReg.id, 0, 0, 1, 0, 0, 0, 0, 0]).map RxAnswer.byte ++ [RxAnswer.byte 0xC0] :=
  ⟨facing_inv _ _ _, rfl, rfl, rfl, rfl, rfl, rfl, rfl⟩

/-! ### The whole machine -/

theorem test_reset_inv : State.reset.Inv := facing_inv [] [] []

theorem witness_StepKeepsTheInvariant : ∃ t, (sendingTo [.ok]).Inv ∧ step (sendingTo [.ok]) = .next t :=
  ⟨_, sendingTo_inv _, rfl⟩

theorem witness_NoFailureIsAStuckCondition : (sendingTo []).Inv ∧ State.reset.Inv := ⟨sendingTo_inv _, facing_inv [] [] []⟩

theorem witness_ResetPulseAbandonsTheCommand :
    let s := { leading .sync with rstIn := [true, false], reqs := [(Instr.flashEnd 1).toRequest] }
    s.rstIn = true :: [false] ∧ s.takeRst.blockReset.reqs = [(Instr.flashEnd 1).toRequest] ∧
    (Instr.flashEnd 1).toRequest.cmd = Cmd.flashEnd.id ∧ s.takeRst.blockReset.rstNow = false := by decide

theorem witness_PhasesFollowTheTable : ∃ t, (answered .matching 0 0).rstNow = false ∧ step (answered .matching 0 0) = .next t :=
  ⟨_, rfl, rfl⟩

theorem witness_EachStepMakesAtMostOneTransfer : ∃ t,
    (answered .status 1 5).rstNow = false ∧ step (answered .status 1 5) = .next t := ⟨_, rfl, rfl⟩

theorem witness_CompletionSavesNothingElse : ∃ t, (answered .status 0 0).rstNow = false ∧ step (answered .status 0 0) = .next t ∧
    (answered .status 0 0).ph ≠ .idle ∧ t.ph = .idle := ⟨_, rfl, rfl, by decide, rfl⟩

theorem witness_OnlyReadRegPresentsAValue : ∃ t, (answered .status 0 0).Inv ∧ (answered .status 0 0).rstNow = false ∧
    step (answered .status 0 0) = .next t ∧ (answered .status 0 0).ph ≠ .idle ∧ t.res = some ⟨.ok, none, some 0xDEADBEEF, .none⟩ :=
  ⟨_, ⟨rfl, by decide, by decide, by decide, rfl, by decide, by decide, fun _ => ⟨.readReg, ⟨rfl, rfl⟩, fun _ => ⟨rfl, rfl⟩⟩,
    fun _ => rfl, by decide, by decide⟩, rfl, rfl, by decide, rfl⟩

theorem witness_UnspecifiedRegistersAreUnobservable :
    State.reset.SameOutside { State.reset with
      curCmd := 0xFF, want := true, pay := [0x01], len := 5, body := [], chk := 1, ti := 9, escp := some 2, rb := List.replicate 10 3,
      ri := 4, ndisc := 6 } ∧ State.reset.rb.length = 10 ∧ (List.replicate 10 (3 : Byte)).length = 10 :=
  ⟨⟨rfl, rfl, rfl, rfl, rfl, rfl, rfl, rfl, rfl, rfl, rfl⟩, rfl, rfl⟩

end Sys2Proof.Tests
end

section
/-! PROOFS. Requests and the latch (spec/10_state.md R31, R34, R38, R39): what the block's decoder reads, what acceptance latches, which
command a step runs, and what a busy step leaves alone. -/

namespace Sys2Proof

open Machine (Request)

variable {i : Instr} {r : Request}

/-! ## The decoder of requests -/

theorem Cmd.id_inj {c d : Cmd} : c.id = d.id ↔ c = d :=
  ⟨fun h => by simpa [Cmd.ofId?_id] using congrArg Cmd.ofId? h, congrArg Cmd.id⟩

/-- The decoder reads a request by its id alone; the operands are the request's words. -/
theorem decodeRequest_eq_ok : decodeRequest r = .ok i ↔ ∃ c : Cmd, r.cmd = c.id ∧ instrOf c r = i := by
  unfold decodeRequest
  constructor
  · intro h
    cases hc : Cmd.ofId? r.cmd with
    | none => simp [hc] at h
    | some c => exact ⟨c, Cmd.ofId?_eq_some hc, by simpa [hc] using h⟩
  · rintro ⟨c, hc, rfl⟩
    simp [hc, Cmd.ofId?_id]

@[simp] theorem instrOf_cmd (c : Cmd) (r : Request) : (instrOf c r).cmd = c := by cases c <;> rfl

theorem Instr.toRequest_cmd (i : Instr) : i.toRequest.cmd = i.cmd.id := by cases i <;> rfl

/-! ## The payload of a request -/

/-- PAY has L bytes (R31). -/
theorem Machine.Request.payload_length (r : Request) : r.payload.length = r.len.toNat := by
  rw [Request.payload, List.length_take, Request.len, BitVec.toNat_ofNat]
  exact Nat.min_eq_left (Nat.mod_le _ _)

/-- PAY is the whole buffer where its length is a u32 (log 1). -/
theorem Machine.Request.payload_eq (h : r.pay.length < 2 ^ 32) : r.payload = r.pay := by
  rw [Request.payload, Request.len, BitVec.toNat_ofNat, Nat.mod_eq_of_lt h, List.take_length]

/-- A request whose buffer is already cut to `req_len` bytes presents the same payload. -/
theorem Machine.Request.payload_idem (r : Request) : { r with pay := r.payload }.payload = r.payload := by
  apply Request.payload_eq
  simpa [Request.payload_length] using r.len.isLt

end Sys2Proof

namespace Sys2Proof.Machine

variable {s t : State} {i : Instr} {r : Request}

/-! ## The latch -/

/-- The command in the latch is the one CUR_CMD names. -/
theorem State.Holds.curCmd (h : s.Holds i) : s.curCmd = i.cmd.id := by
  obtain ⟨c, hc, rfl⟩ := decodeRequest_eq_ok.mp h
  simpa [State.latched] using hc

/-- Which command the latch holds depends on the latched request only. -/
theorem State.Holds.of_latched (h : s.Holds i) (hl : t.latched = s.latched) : t.Holds i := by
  rw [State.Holds, State.current, hl]
  exact h

/-! ## Acceptance -/

/-- Acceptance makes the latch hold the command decoded from REQ. -/
theorem accept_holds (h : decodeRequest r = .ok i) : (s.accept r).Holds i := by
  obtain ⟨c, hc, rfl⟩ := decodeRequest_eq_ok.mp h
  have hl : (s.accept r).latched = { r with pay := r.payload } := rfl
  refine decodeRequest_eq_ok.mpr ⟨c, hc, ?_⟩
  rw [hl]
  cases c <;> simp [instrOf, Request.payload_idem]

/-! ## Which command a step runs -/

theorem step_of_idle (hr : s.rstNow = false) (hi : s.ph = .idle) : step s = idleStep s.takeRst := by
  simp [step, hr, runStep, hi]

theorem step_of_busy (hr : s.rstNow = false) (hi : s.ph ≠ .idle) (h : s.Holds i) : step s = exec i s.takeRst := by
  have hc : s.takeRst.current = .ok i := h
  simp [step, hr, runStep, hi, busyStep, hc]

/-- In IDLE the request that stands first is accepted, if its id is one of the ten (R39). -/
theorem step_of_request {rest : List Request} {c : Cmd} (hr : s.rstNow = false) (hi : s.ph = .idle)
    (hq : s.reqs = r :: rest) (hc : r.cmd = c.id) : step s = .next (s.takeRst.dropRequest.accept r) := by
  have hd : decodeRequest r = .ok (instrOf c r) := decodeRequest_eq_ok.mpr ⟨c, hc, rfl⟩
  simp [step_of_idle hr hi, idleStep, hq, hd]

/-! ## What a busy step leaves alone -/

/-- Outside IDLE no step touches the latch or the requests on REQ. -/
theorem exec_busy_frame (hi : s.ph ≠ .idle) (h : exec i s = .next t) : t.latched = s.latched ∧ t.reqs = s.reqs := by
  by_cases hb : s.ph = .build
  · simp only [exec_of_ph hb, Host.Outcome.next.injEq] at h
    subst h
    obtain ⟨_, hl, _, _, _, _, _, _, _, _, hq, _⟩ := builder_frame i s
    exact ⟨hl, hq⟩
  · obtain ⟨hl, _, _, _, _, _, hq, _⟩ := exec_late_frame hi hb h
    exact ⟨hl, hq⟩

/-! ## Table words on REQ -/

/-- A table word the decoder reads stands for a request that decodes to the same command. -/
theorem decodeTableWord_eq_some {nbits w : Nat} (h : decodeTableWord nbits w = some i) :
    decodeRequest (requestOfWord nbits w) = .ok i := by
  unfold decodeTableWord at h
  unfold requestOfWord
  cases hw : tableRequest nbits w with
  | rejected why => simp [hw, Decoded.toOption] at h
  | ok r =>
    simp only [hw, Decoded.bind_ok] at h
    cases hd : decodeRequest r <;> simp [hd, Decoded.toOption] at h
    rw [h]

/-- `present` keeps the next step free of a pulse. -/
theorem present_rstNow (s : State) (r : Request) : (s.present r).rstNow = false := by
  cases h : s.rstIn <;> simp [State.rstNow, noPulseNext, h]

/-! ## The obligations -/

/-- Settles O8: a request is accepted in IDLE by `step_of_request`; a busy step is `exec` of the latched command, which leaves the
requests alone. -/
theorem requestsAreAcceptedInIdleOnly : Obligations.RequestsAreAcceptedInIdleOnly := by
  refine ⟨fun s r rest c hr hi hq hc hlen => ⟨_, step_of_request hr hi hq hc, ?_⟩, fun s t hr hi h => ?_⟩
  · have hL : r.len.toNat = r.pay.length := by rw [← Request.payload_length, Request.payload_eq hlen]
    have hid : Cmd.readReg.id = 0x0A := rfl
    simp [State.dropRequest, hq, hL, Request.payload_eq hlen, hid]
  · obtain ⟨hi', _⟩ | ⟨_, i, _, hx⟩ := step_cases hr h
    · exact absurd hi' hi
    · exact (exec_busy_frame (by simpa using hi) hx).2

/-- Settles O9: the state acceptance leaves, field by field. -/
theorem acceptanceLatchesTheArguments : Obligations.AcceptanceLatchesTheArguments :=
  fun _ _ _ _ hr hi hq hc => ⟨_, step_of_request hr hi hq hc, rfl, rfl, rfl, rfl, rfl⟩

/-- Settles O11: IDLE's step with nothing on REQ. -/
theorem idleWaitsForARequest : Obligations.IdleWaitsForARequest := by
  intro s hr hi hq
  simp [step_of_idle hr hi, idleStep, hq]

/-- Settles O12: by `step_of_request` in IDLE and `step_of_busy` elsewhere; the latch by `accept_holds` and `exec_busy_frame`. -/
theorem stepRunsTheDecodedCommand : Obligations.StepRunsTheDecodedCommand := by
  refine ⟨fun s i rest hr hi _ hq => ?_, fun s i hr hi hh => step_of_busy hr hi hh, fun s r i hd => accept_holds hd,
    fun i s t hi hh hx => hh.of_latched (exec_busy_frame hi hx).1⟩
  have hp : State.ph { s.takeRst with reqs := rest } = .idle := hi
  rw [step_of_request hr hi hq (Instr.toRequest_cmd i), exec_of_ph hp]
  simp [State.dropRequest, hq]

/-- Settles O13: the word's request stands first in IDLE with no pulse, so the next step accepts it. -/
theorem fetchWordIsTheNextCommand : Obligations.FetchWordIsTheNextCommand := by
  intro s nbits w i h
  have hd := decodeTableWord_eq_some h
  obtain ⟨c, hc, _⟩ := decodeRequest_eq_ok.mp hd
  exact ⟨_, step_of_request (present_rstNow s _) rfl rfl hc, rfl, accept_holds hd, rfl, rfl⟩

end Sys2Proof.Machine
end

section
/-! PROOFS. SEQ (spec/10_state.md R33, 42_commands.md R223 to R225): who writes it and who reads it. -/

namespace Sys2Proof.Machine

variable {s t : State} {i : Instr}

/-! ## Writes of SEQ -/

/-- Outside IDLE a step that changes SEQ is BUILD's, and leaves what R223 says. -/
theorem exec_busy_seq (hi : s.ph ≠ .idle) (h : exec i s = .next t) (hne : t.seq ≠ s.seq) :
    s.ph = .build ∧ t.seq = seqAfter i s.seq := by
  by_cases hb : s.ph = .build
  · simp only [exec_of_ph hb, Host.Outcome.next.injEq] at h
    exact ⟨hb, h ▸ builder_seq i s⟩
  · obtain ⟨_, _, _, hseq, _⟩ := exec_late_frame hi hb h
    exact absurd hseq hne

theorem idleStep_seq (h : idleStep s = .next t) : t.seq = s.seq := by
  obtain ⟨_, rfl⟩ | ⟨_, _, _, _, _, _, rfl⟩ := idleStep_cases h <;> rfl

/-- Settles O22: neither IDLE nor a phase after BUILD changes SEQ, and BUILD changes it as `seqAfter` says. -/
theorem onlyBeginAndDataBuildsChangeSeq : Obligations.OnlyBeginAndDataBuildsChangeSeq := by
  intro s t hr h hne
  obtain ⟨_, hx⟩ | ⟨hi, i, hh, hx⟩ := step_cases hr h
  · exact absurd (idleStep_seq hx) hne
  · obtain ⟨hb, hseq⟩ := exec_busy_seq (s := s.takeRst) hi hx hne
    refine ⟨hb, i, hh, ?_⟩
    unfold seqAfter at hseq
    split at hseq
    · exact .inl ⟨‹_›, hseq⟩
    · split at hseq
      · exact .inr ⟨‹_›, hseq⟩
      · exact absurd hseq hne

/-! ## Reads of SEQ. A step does not read SEQ where it commutes with putting another value there. -/

/-- The state with another SEQ. -/
def State.withSeq (q : Word) (s : State) : State := { s with seq := q }

/-- The outcome with another SEQ in its next state. -/
def withSeqNext (q : Word) : Out → Out
  | .next s => .next (s.withSeq q)
  | .fault f => .fault f
  | .refused r => .refused r

variable (q : Word)

@[simp] theorem withSeq_txAnswer : (s.withSeq q).txAnswer = s.txAnswer := rfl
@[simp] theorem withSeq_rxAnswer : (s.withSeq q).rxAnswer = s.rxAnswer := rfl
@[simp] theorem withSeq_ph : (s.withSeq q).ph = s.ph := rfl
@[simp] theorem withSeq_ti : (s.withSeq q).ti = s.ti := rfl
@[simp] theorem withSeq_sendTotal : (s.withSeq q).sendTotal = s.sendTotal := rfl
@[simp] theorem withSeq_escp : (s.withSeq q).escp = s.escp := rfl

theorem tryTx_withSeq {b : Byte} {k : State → Out} (hk : ∀ u, k (u.withSeq q) = withSeqNext q (k u)) :
    tryTx b (s.withSeq q) k = withSeqNext q (tryTx b s k) := by
  unfold tryTx
  rw [withSeq_txAnswer]
  cases s.txAnswer with
  | ok => exact hk (s.afterTx b)
  | err e => rfl

theorem tryRx_withSeq {k : Byte → State → Out} (hk : ∀ b u, k b (u.withSeq q) = withSeqNext q (k b u)) :
    tryRx (s.withSeq q) k = withSeqNext q (tryRx s k) := by
  unfold tryRx
  rw [withSeq_rxAnswer]
  cases s.rxAnswer with
  | byte b => exact hk b s.afterRx
  | err e => rfl

theorem txBodyDone_withSeq : txBodyDone (s.withSeq q) = (txBodyDone s).withSeq q :=
  (apply_ite (State.withSeq q) (s.escp = none ∧ s.ti = s.sendTotal) (s.goto .txTrail) s).symm

theorem txBodyStep_withSeq : txBodyStep (s.withSeq q) = withSeqNext q (txBodyStep s) := by
  have hsend (w : Byte) (u : State) : tryTx w (u.withSeq q) (fun u => .next (txBodyDone u)) =
      withSeqNext q (tryTx w u fun u => .next (txBodyDone u)) :=
    tryTx_withSeq q fun u => congrArg _ (txBodyDone_withSeq q)
  simp only [txBodyStep, withSeq_escp, withSeq_ti, withSeq_sendTotal]
  cases s.escp with
  | some w => exact hsend w s.dropEscp
  | none =>
    rw [apply_ite (withSeqNext q)]
    exact congrArg (ite _ · _) (hsend (escFirst s.sendByte) s.pastByte)

theorem rxEscStep_withSeq (p : Params) : rxEscStep p (s.withSeq q) = withSeqNext q (rxEscStep p s) :=
  tryRx_withSeq q fun c _ => by cases unescape p c <;> rfl

theorem matchStep_withSeq (p : Params) : matchStep p (s.withSeq q) = withSeqNext q (matchStep p s) := by
  simp only [matchStep, discardFrame, apply_ite (withSeqNext q)]
  rfl

theorem statusStep_withSeq : statusStep (s.withSeq q) = withSeqNext q (statusStep s) := by
  simp only [statusStep, apply_ite (withSeqNext q)]
  rfl

/-- After BUILD no phase reads SEQ. -/
theorem exec_late_withSeq (hi : s.ph ≠ .idle) (hb : s.ph ≠ .build) :
    exec i (s.withSeq q) = withSeqNext q (exec i s) := by
  simp only [exec_eq_execute, execute, withSeq_ph]
  cases hp : s.ph with
  | idle => exact absurd hp hi
  | build => exact absurd hp hb
  | txLead => exact tryTx_withSeq q fun _ => rfl
  | txBody => exact txBodyStep_withSeq q
  | txTrail => exact tryTx_withSeq q fun _ => rfl
  | rxHunt => exact tryRx_withSeq q fun _ _ => by split <;> rfl
  | rxData => exact tryRx_withSeq q fun _ _ => by split <;> rfl
  | rxEsc => exact rxEscStep_withSeq q _
  | rxTrail => exact tryRx_withSeq q fun _ _ => by split <;> rfl
  | matching => exact matchStep_withSeq q _
  | status => exact statusStep_withSeq q

/-- The builder of a command that is no data command takes nothing from SEQ but SEQ itself. -/
theorem builder_withSeq (h : i.cmd.isData = false) :
    (builder i (s.withSeq q)).withSeq (builder i s).seq = builder i s := by
  cases i with
  | flashData | memData => cases h
  | sync | flashBegin | flashEnd | memBegin | memEnd | writeReg | readReg | spiAttach => rfl

/-- Settles O23: acceptance and the phases after BUILD commute with another SEQ, and so does a builder that is no data command's but
for the SEQ it leaves. -/
theorem onlyDataBuildsReadSeq : Obligations.OnlyDataBuildsReadSeq := by
  intro i s t q hd h
  change ∃ u, exec i (s.withSeq q) = .next u ∧ u.withSeq t.seq = t
  by_cases hi : s.ph = .idle
  · simp only [exec_of_ph hi, Host.Outcome.next.injEq] at h
    exact ⟨_, exec_of_ph ((withSeq_ph q).trans hi), h ▸ rfl⟩
  by_cases hb : s.ph = .build
  · simp only [exec_of_ph hb, Host.Outcome.next.injEq] at h
    have hn : i.cmd.isData = false := by simpa using fun hd' => hd hd' hb
    exact ⟨_, exec_of_ph ((withSeq_ph q).trans hb), h ▸ builder_withSeq q hn⟩
  · exact ⟨t.withSeq q, by rw [exec_late_withSeq q hi hb, h, withSeqNext], rfl⟩

end Sys2Proof.Machine
end

section
/-! PROOFS. The order of the phases (spec/10_state.md R38). -/

namespace Sys2Proof.Machine

variable {s t : State} {i : Instr}

theorem idleStep_ph (hi : s.ph = .idle) (h : idleStep s = .next t) : t.ph ∈ Phase.idle.next := by
  obtain ⟨_, rfl⟩ | ⟨_, _, _, _, _, _, rfl⟩ := idleStep_cases h <;> simp [Phase.next, hi]

theorem txBodyDone_ph (s : State) : (txBodyDone s).ph = .txTrail ∨ (txBodyDone s).ph = s.ph := by
  unfold txBodyDone
  split <;> simp

theorem store_ph (s : State) (n : Nat) (v : Byte) : (s.store n v).ph = .rxData ∨ (s.store n v).ph = .rxTrail := by
  by_cases h : s.ri + 1 < n <;> simp [h]

/-- Outside IDLE a step of a command goes to a phase that can follow, or completes. -/
theorem exec_busy_ph (hi : s.ph ≠ .idle) (h : exec i s = .next t) : t.ph ∈ s.ph.next := by
  cases hp : s.ph with
  | idle => exact absurd hp hi
  | build =>
    simp only [exec_of_ph hp, Host.Outcome.next.injEq] at h
    obtain ⟨hlead, _⟩ := builder_frame i s
    simp [← h, hlead, Phase.next]
  | txLead =>
    simp only [exec_of_ph hp, txLeadStep_eq_next] at h
    obtain ⟨_, rfl⟩ | ⟨_, _, rfl⟩ := h <;> simp [Phase.next]
  | txBody =>
    simp only [exec_of_ph hp, txBodyStep_eq_next] at h
    obtain ⟨w, _, ⟨_, rfl⟩ | ⟨_, _, rfl⟩⟩ | ⟨_, _, ⟨_, rfl⟩ | ⟨_, _, rfl⟩⟩ := h
    · obtain ht | ht := txBodyDone_ph (s.dropEscp.afterTx w) <;> simp [ht, hp, Phase.next]
    · simp [Phase.next]
    · obtain ht | ht := txBodyDone_ph (s.pastByte.afterTx (escFirst s.sendByte)) <;> simp [ht, hp, Phase.next]
    · simp [Phase.next]
  | txTrail =>
    simp only [exec_of_ph hp, txTrailStep_eq_next] at h
    obtain ⟨_, rfl⟩ | ⟨_, _, rfl⟩ := h <;> simp [Phase.next]
  | rxHunt =>
    simp only [exec_of_ph hp, rxHuntStep_eq_next] at h
    obtain ⟨b, _, rfl⟩ | ⟨_, _, rfl⟩ := h
    · by_cases hb : b = slipEnd <;> simp [hb, hp, Phase.next]
    · simp [Phase.next]
  | rxData =>
    simp only [exec_of_ph hp, rxDataStep_eq_next] at h
    obtain ⟨b, _, rfl⟩ | ⟨_, _, rfl⟩ := h
    · by_cases hb : b = slipEsc
      · simp [hb, Phase.next]
      · obtain ht | ht := store_ph s.afterRx defaultParams.respLen b <;> simp only [if_neg hb, ht, Phase.next] <;> decide
    · simp [Phase.next]
  | rxEsc =>
    simp only [exec_of_ph hp, rxEscStep_eq_next] at h
    obtain ⟨_, v, _, _, rfl⟩ | ⟨_, _, _, rfl⟩ | ⟨_, _, rfl⟩ := h
    · obtain ht | ht := store_ph s.afterRx defaultParams.respLen v <;> simp only [ht, Phase.next] <;> decide
    · simp [Phase.next]
    · simp [Phase.next]
  | rxTrail =>
    simp only [exec_of_ph hp, rxTrailStep_eq_next] at h
    obtain ⟨b, _, rfl⟩ | ⟨_, _, rfl⟩ := h
    · by_cases hb : b = slipEnd <;> simp [hb, Phase.next]
    · simp [Phase.next]
  | matching =>
    simp only [exec_of_ph hp, matchStep_eq_next] at h
    subst h
    split
    · simp [Phase.next]
    · split <;> simp [Phase.next]
  | status =>
    simp only [exec_of_ph hp, statusStep_eq_next] at h
    subst h
    split <;> simp [Phase.next]

/-- Settles O52: by `idleStep_ph` in IDLE and `exec_busy_ph` elsewhere. -/
theorem phasesFollowTheTable : Obligations.PhasesFollowTheTable := by
  intro s t hr h
  obtain ⟨hi, hx⟩ | ⟨hi, i, _, hx⟩ := step_cases hr h
  · rw [hi]
    exact idleStep_ph (by simpa using hi) hx
  · exact exec_busy_ph (s := s.takeRst) hi hx

end Sys2Proof.Machine
end

section
/-! PROOFS. The invariant (Safety.lean), phase by phase. Between BUILD's end and the completion it is `State.Serving`, which names no
phase and which every operation of a step keeps, and `State.PhaseOk`, which each phase owes to the one before it. -/

namespace Sys2Proof.Machine

variable {s t : State} {i : Instr} {c : Cmd}

/-- What holds of a command's state from BUILD's end to its completion, in every phase. -/
structure State.Serving (s : State) (c : Cmd) : Prop where
  rb_length : s.rb.length = defaultParams.respLen
  ri_le : s.ri ≤ defaultParams.respLen
  pay_length : s.pay.length = s.len.toNat
  escp_follow : s.escp = none ∨ s.escp = some slipEscEnd ∨ s.escp = some slipEscEsc
  latch : s.LatchOk c
  body : s.BodyOk c
  res_absent : s.res = none

/-- What the phase adds to it. -/
def State.PhaseOk (s : State) : Prop :=
  match s.ph with
  | .txBody => s.ti ≤ s.sendTotal ∧ (s.escp = none → s.ti < s.sendTotal)
  | .rxData | .rxEsc => s.ri < defaultParams.respLen
  | .rxTrail | .matching => s.ri = defaultParams.respLen
  | .status => s.ri = defaultParams.respLen ∧ frameMatches s.rb s.curCmd = true
  | .idle | .build | .txLead | .txTrail | .rxHunt => True

/-! ## Between the invariant and its two parts -/

/-- A record's length is one R35 allows. -/
theorem State.BodyOk.length_bounds (h : s.BodyOk c) : 12 ≤ s.body.length ∧ s.body.length ≤ 44 := by
  obtain ⟨hlen, _⟩ := h
  rw [hlen]
  cases c <;> decide

theorem State.Inv.serving (h : s.Inv) (hi : s.ph ≠ .idle) (hb : s.ph ≠ .build) : ∃ c, s.Serving c := by
  obtain ⟨c, hl, hbody⟩ := h.latch hi
  exact ⟨c, h.rb_length, h.ri_le, h.pay_length, h.escp_follow, hl, hbody hb, h.res_absent hi⟩

theorem State.Serving.inv (h : s.Serving c) (hp : s.PhaseOk) : s.Inv where
  rb_length := h.rb_length
  ri_le := h.ri_le
  ri_lt := by rintro (hph | hph) <;> simpa [State.PhaseOk, hph] using hp
  ri_full := by
    rintro (hph | hph | hph)
    · simpa [State.PhaseOk, hph] using hp
    · simpa [State.PhaseOk, hph] using hp
    · simp only [State.PhaseOk, hph] at hp
      exact hp.1
  pay_length := h.pay_length
  body_length := h.body.length_bounds
  escp_follow := h.escp_follow
  latch _ := ⟨c, h.latch, fun _ => h.body⟩
  res_absent _ := h.res_absent
  send_index hph := by simpa [State.PhaseOk, hph] using hp
  status_matched hph := by
    simp only [State.PhaseOk, hph] at hp
    exact hp.2

/-- A completion gives up what only a busy phase must have. -/
theorem State.Serving.complete_inv (h : s.Serving c) (r : Result) : (s.complete r).Inv where
  rb_length := h.rb_length
  ri_le := h.ri_le
  ri_lt := by simp
  ri_full := by simp
  pay_length := h.pay_length
  body_length := h.body.length_bounds
  escp_follow := h.escp_follow
  latch := by simp
  res_absent := by simp
  send_index := by simp
  status_matched := by simp

/-! ## What the operations of a step keep -/

theorem State.Serving.emit (h : s.Serving c) (e : PortEvent) : (s.emit e).Serving c := { h with }
theorem State.Serving.afterTx (h : s.Serving c) (b : Byte) : (s.afterTx b).Serving c := { h with }
theorem State.Serving.afterRx (h : s.Serving c) : s.afterRx.Serving c := { h with }
theorem State.Serving.goto (h : s.Serving c) (ph : Phase) : (s.goto ph).Serving c := { h with }
theorem State.Serving.countDiscard (h : s.Serving c) : s.countDiscard.Serving c := { h with }
theorem State.Serving.beginBody (h : s.Serving c) : s.beginBody.Serving c := { h with escp_follow := .inl rfl }
theorem State.Serving.dropEscp (h : s.Serving c) : s.dropEscp.Serving c := { h with escp_follow := .inl rfl }
theorem State.Serving.beginData (h : s.Serving c) : s.beginData.Serving c := { h with ri_le := Nat.zero_le _ }

/-- The second byte of an escape pair is one of the two follow bytes. -/
theorem escSecond_follow (b : Byte) : escSecond b = none ∨ escSecond b = some slipEscEnd ∨ escSecond b = some slipEscEsc := by
  unfold escSecond
  split
  · simp
  · split <;> simp

theorem State.Serving.pastByte (h : s.Serving c) : s.pastByte.Serving c :=
  { h with escp_follow := escSecond_follow s.sendByte }

theorem State.Serving.store (h : s.Serving c) (hri : s.ri < defaultParams.respLen) (v : Byte) :
    (s.store defaultParams.respLen v).Serving c :=
  { h with
    rb_length := by simpa using h.rb_length
    ri_le := hri }

/-! ## The phases -/

/-- The byte after the stored one, or the trailer after the last. -/
theorem State.Serving.store_inv (h : s.Serving c) (hri : s.ri < defaultParams.respLen) (v : Byte) :
    (s.store defaultParams.respLen v).Inv := by
  refine (h.store hri v).inv ?_
  by_cases hlt : s.ri + 1 < defaultParams.respLen
  · simp [State.PhaseOk, hlt]
  · simp only [State.PhaseOk, State.store_ph, if_neg hlt, State.store_ri]
    omega

/-- TX_BODY goes on while there is a byte to send or the second byte of an escape pair, else to the trailer. -/
theorem State.Serving.txBodyDone_inv (h : s.Serving c) (hp : s.ph = .txBody) (hti : s.ti ≤ s.sendTotal) : (txBodyDone s).Inv := by
  by_cases hd : s.escp = none ∧ s.ti = s.sendTotal
  · rw [txBodyDone, if_pos hd]
    exact (h.goto _).inv trivial
  · rw [txBodyDone, if_neg hd]
    refine h.inv ?_
    simp only [State.PhaseOk, hp]
    exact ⟨hti, fun he => lt_of_le_of_ne hti fun heq => hd ⟨he, heq⟩⟩

/-- After BUILD every step of a command keeps the invariant. -/
theorem exec_late_inv (hs : s.Inv) (hi : s.ph ≠ .idle) (hb : s.ph ≠ .build) (h : exec i s = .next t) : t.Inv := by
  obtain ⟨c, hsv⟩ := hs.serving hi hb
  cases hp : s.ph with
  | idle => exact absurd hp hi
  | build => exact absurd hp hb
  | txLead =>
    simp only [exec_of_ph hp, txLeadStep_eq_next] at h
    obtain ⟨_, rfl⟩ | ⟨_, _, rfl⟩ := h
    · have hpos : 0 < s.sendTotal := by
        have := hs.body_length
        unfold State.sendTotal
        omega
      exact (hsv.afterTx _).beginBody.inv ⟨hpos.le, fun _ => hpos⟩
    · exact (hsv.afterTx _).complete_inv _
  | txBody =>
    obtain ⟨hle, _⟩ := hs.send_index hp
    simp only [exec_of_ph hp, txBodyStep_eq_next] at h
    obtain ⟨_, _, ⟨_, rfl⟩ | ⟨_, _, rfl⟩⟩ | ⟨_, hlt, ⟨_, rfl⟩ | ⟨_, _, rfl⟩⟩ := h
    · exact (hsv.dropEscp.afterTx _).txBodyDone_inv hp hle
    · exact (hsv.dropEscp.afterTx _).complete_inv _
    · exact (hsv.pastByte.afterTx _).txBodyDone_inv hp hlt
    · exact (hsv.pastByte.afterTx _).complete_inv _
  | txTrail =>
    simp only [exec_of_ph hp, txTrailStep_eq_next] at h
    obtain ⟨_, rfl⟩ | ⟨_, _, rfl⟩ := h
    · exact ((hsv.afterTx _).goto _).inv trivial
    · exact (hsv.afterTx _).complete_inv _
  | rxHunt =>
    simp only [exec_of_ph hp, rxHuntStep_eq_next] at h
    obtain ⟨_, _, rfl⟩ | ⟨_, _, rfl⟩ := h
    · split
      · exact hsv.afterRx.beginData.inv (by simp [State.PhaseOk, defaultParams])
      · exact hsv.afterRx.inv (by simp [State.PhaseOk, hp])
    · exact hsv.afterRx.complete_inv _
  | rxData =>
    have hri := hs.ri_lt (.inl hp)
    simp only [exec_of_ph hp, rxDataStep_eq_next] at h
    obtain ⟨_, _, rfl⟩ | ⟨_, _, rfl⟩ := h
    · split
      · exact (hsv.afterRx.goto _).inv hri
      · exact hsv.afterRx.store_inv hri _
    · exact hsv.afterRx.complete_inv _
  | rxEsc =>
    have hri := hs.ri_lt (.inr hp)
    simp only [exec_of_ph hp, rxEscStep_eq_next] at h
    obtain ⟨_, _, _, _, rfl⟩ | ⟨_, _, _, rfl⟩ | ⟨_, _, rfl⟩ := h
    · exact hsv.afterRx.store_inv hri _
    · exact hsv.afterRx.complete_inv _
    · exact hsv.afterRx.complete_inv _
  | rxTrail =>
    have hri := hs.ri_full (.inl hp)
    simp only [exec_of_ph hp, rxTrailStep_eq_next] at h
    obtain ⟨_, _, rfl⟩ | ⟨_, _, rfl⟩ := h
    · split
      · exact (hsv.afterRx.goto _).inv hri
      · exact hsv.afterRx.complete_inv _
    · exact hsv.afterRx.complete_inv _
  | matching =>
    have hri := hs.ri_full (.inr (.inl hp))
    simp only [exec_of_ph hp, matchStep_eq_next] at h
    subst h
    split
    · exact (hsv.goto _).inv ⟨hri, ‹_›⟩
    · split
      · exact hsv.countDiscard.complete_inv _
      · exact (hsv.countDiscard.goto _).inv trivial
  | status =>
    simp only [exec_of_ph hp, statusStep_eq_next] at h
    subst h
    split
    · exact (hsv.emit _).complete_inv _
    · exact hsv.complete_inv _

/-- Every builder writes a record of its command: of that length, beginning with the direction and the id. -/
theorem builder_body (i : Instr) (s : State) :
    (builder i s).body.length = hdrLen + i.cmd.psize ∧ (builder i s).body.take 2 = [dirReq, i.cmd.id] := by
  cases i <;> exact ⟨rfl, rfl⟩

/-- BUILD of the latched command keeps the invariant. -/
theorem builder_inv (hs : s.Inv) (hb : s.ph = .build) (hh : s.Holds i) : (builder i s).Inv := by
  have hi : s.ph ≠ .idle := by simp [hb]
  obtain ⟨c, ⟨hcmd, hwant⟩, _⟩ := hs.latch hi
  obtain rfl : c = i.cmd := Cmd.id_inj.mp (hcmd.symm.trans hh.curCmd)
  obtain ⟨fph, flatch, fwant, flen, _, fescp, frb, fri, _, fres, _⟩ := builder_frame i s
  have fcmd : (builder i s).curCmd = s.curCmd := congrArg Request.cmd flatch
  have fpay : (builder i s).pay = s.pay := congrArg Request.pay flatch
  have hsv : (builder i s).Serving i.cmd :=
    { rb_length := frb ▸ hs.rb_length
      ri_le := fri ▸ hs.ri_le
      pay_length := by rw [fpay, flen, hs.pay_length]
      escp_follow := fescp ▸ hs.escp_follow
      latch := ⟨fcmd.trans hcmd, fwant.trans hwant⟩
      body := builder_body i s
      res_absent := fres.trans (hs.res_absent hi) }
  exact hsv.inv (by simp [State.PhaseOk, fph])

/-- Acceptance of one of the ten commands keeps the invariant. -/
theorem accept_inv (hs : s.Inv) {r : Request} (hc : r.cmd = c.id) : (s.accept r).Inv where
  rb_length := hs.rb_length
  ri_le := hs.ri_le
  ri_lt := by simp
  ri_full := by simp
  pay_length := r.payload_length
  body_length := hs.body_length
  escp_follow := hs.escp_follow
  latch _ := ⟨c, ⟨hc, by simp [hc, Cmd.id_inj]⟩, fun h => absurd rfl h⟩
  res_absent _ := rfl
  send_index := by simp
  status_matched := by simp

theorem State.Inv.takeRst (hs : s.Inv) : s.takeRst.Inv := { hs with }
theorem State.Inv.dropRequest (hs : s.Inv) : s.dropRequest.Inv := { hs with }

/-- A reset pulse gives the registers their reset values, whatever they held. -/
theorem blockReset_inv (s : State) : s.blockReset.Inv where
  rb_length := rfl
  ri_le := Nat.zero_le _
  ri_lt := by simp [State.reset]
  ri_full := by simp [State.reset]
  pay_length := rfl
  body_length := by simp [State.reset]
  escp_follow := .inl rfl
  latch h := absurd rfl h
  res_absent _ := rfl
  send_index := by simp [State.reset]
  status_matched := by simp [State.reset]

theorem idleStep_inv (hs : s.Inv) (h : idleStep s = .next t) : t.Inv := by
  obtain ⟨_, rfl⟩ | ⟨r, _, c, _, hc, _, rfl⟩ := idleStep_cases h
  · exact hs
  · exact accept_inv hs.dropRequest hc

/-- Outside IDLE a step of the latched command keeps the invariant. -/
theorem exec_busy_inv (hs : s.Inv) (hi : s.ph ≠ .idle) (hh : s.Holds i) (h : exec i s = .next t) : t.Inv := by
  by_cases hb : s.ph = .build
  · simp only [exec_of_ph hb, Host.Outcome.next.injEq] at h
    exact h ▸ builder_inv hs hb hh
  · exact exec_late_inv hs hi hb h

/-- Settles O49: a pulse by `blockReset_inv`, IDLE by `idleStep_inv`, every other phase by `exec_busy_inv`. -/
theorem stepKeepsTheInvariant : Obligations.StepKeepsTheInvariant := by
  intro s t hs h
  cases hr : s.rstNow with
  | true =>
    simp only [step, hr, if_true, Host.Outcome.next.injEq] at h
    exact h ▸ blockReset_inv _
  | false =>
    obtain ⟨_, hx⟩ | ⟨hi, i, hh, hx⟩ := step_cases hr h
    · exact idleStep_inv hs.takeRst hx
    · exact exec_busy_inv hs.takeRst hi hh hx

end Sys2Proof.Machine
end

section
/-! PROOFS. What BUILD writes (spec/20_memory.md R61, R64, 30_encoding.md R102, R103, 42_commands.md R220): the record of the command,
its header as one number, and the checksum of whatever bytes the payload's reads find. -/

namespace Sys2Proof.Machine

variable {s : State} {i : Instr}

/-! ## The header as one number -/

/-- The checksum byte of a header (R103): a data command's CHK, zero in every other header. -/
def headerChk (c : Cmd) (chk : Byte) : Byte := if c.isData then chk else 0

/-- The header's fields side by side in one number, with a checksum byte. -/
def headerWord (c : Cmd) (b : Byte) : HeaderWord :=
  BitVec.setWidth 64 (0x00 : Byte) ||| (BitVec.setWidth 64 c.id <<< 8) ||| (BitVec.ofNat 64 c.psize <<< 16) |||
    (BitVec.setWidth 64 b <<< 32)

/-- The header's eight bytes; PSIZE takes one byte, and a checksum field is a checksum byte zero-extended. -/
theorem hdr_eq (c : Cmd) (chk : Byte) :
    hdr c (BitVec.ofNat 16 c.psize) ((headerChk c chk).setWidth 32) =
      [0x00, c.id, BitVec.ofNat 8 c.psize, 0x00, headerChk c chk, 0x00, 0x00, 0x00] := by
  have hsize : le16 (BitVec.ofNat 16 c.psize) = [BitVec.ofNat 8 c.psize, 0x00] := by cases c <;> rfl
  have hbyte (b : Byte) : le32 (b.setWidth 32) = [b, 0x00, 0x00, 0x00] := by revert b; decide
  rw [hdr, hsize, hbyte]
  rfl

/-- A header's bytes in wire order are its fields side by side, and the opcode table has a row for them: in a data row the checksum
byte is free (R64, R102, R103). -/
theorem ofLe64_hdr {c : Cmd} {b : Byte} (h : c.isData = false → b = 0) :
    ofLe64 0x00 c.id (BitVec.ofNat 8 c.psize) 0x00 b 0x00 0x00 0x00 = headerWord c b ∧ decodeHeader (headerWord c b) = .ok c := by
  cases c with
  | flashData | memData => revert b; decide
  | sync | flashBegin | flashEnd | memBegin | memEnd | writeReg | readReg | spiAttach => obtain rfl := h rfl; exact ⟨rfl, rfl⟩

/-! ## BODY -/

/-- BUILD's record for every command: its header, whose checksum is that of the bytes the payload's reads found, then its fields. -/
theorem builder_body_eq (i : Instr) (s : State) :
    (builder i s).body =
      hdr i.cmd (BitVec.ofNat 16 i.cmd.psize) ((headerChk i.cmd (builder i s).chk).setWidth 32) ++ i.fields s.seq := by
  cases i <;> simp [builder, State.buildPlain, State.buildData, payloadSize, defaultParams, Instr.cmd, Instr.fields, headerChk,
    Cmd.isData, List.append_assoc]

/-- Settles O7: BODY begins with the header's eight bytes, and these are a word of the table. -/
theorem builtHeaderIsTheTableWord : Obligations.BuiltHeaderIsTheTableWord := by
  intro i s t hb h b0 b1 b2 b3 b4 b5 b6 b7 fields hbody
  simp only [exec_of_ph hb, Host.Outcome.next.injEq] at h
  subst h
  rw [builder_body_eq, hdr_eq] at hbody
  simp only [List.cons_append, List.cons.injEq] at hbody
  obtain ⟨rfl, rfl, rfl, rfl, rfl, rfl, rfl, rfl, _⟩ := hbody
  obtain ⟨hword, hdecode⟩ := ofLe64_hdr (c := i.cmd) (b := headerChk i.cmd (builder i s).chk) fun hd => by simp [headerChk, hd]
  refine ⟨hword.trans ?_, hword ▸ hdecode⟩
  rw [headerWord, headerChk, apply_ite (BitVec.setWidth 64)]
  rfl

/-! ## A payload changed by the caller -/

/-- With a change listed for each read, the reads find the changes (U1). -/
theorem observed_changed (payload found : Bytes) (later : List (Option Byte)) (h : found.length = payload.length) :
    observed payload (found.map some ++ later) = found := by
  induction payload generalizing found with
  | nil => rw [List.length_eq_zero_iff.mp h, observed]
  | cons b bs ih =>
    cases found with
    | nil => simp at h
    | cons v vs => simp [observed, ih vs (by simpa using h)]

/-- With no change listed, the reads find the payload as presented (R61). -/
theorem observed_nil (payload : Bytes) : observed payload [] = payload := by
  induction payload with
  | nil => rfl
  | cons b bs ih => simp [observed, ih]

/-- BUILD of a data command folds the bytes its reads find and uses up their entries in the list of changes. -/
theorem builder_data_chk {payload : Bytes} (hi : i = .flashData payload ∨ i = .memData payload) :
    (builder i s).chk = checksum (observed payload s.payChg) ∧ (builder i s).payChg = s.payChg.drop payload.length := by
  obtain rfl | rfl := hi <;> exact ⟨rfl, rfl⟩

/-- The end of a TX_BODY step moves PH only. -/
theorem txBodyDone_eq (s : State) : ∃ ph, txBodyDone s = s.goto ph := by
  unfold txBodyDone
  split
  · exact ⟨_, rfl⟩
  · exact ⟨s.ph, rfl⟩

/-- Settles O17: BUILD by `observed_changed`; the payload byte TX_BODY sends is the change listed first. -/
theorem changedPayloadGivesAnyByteAtEachRead : Obligations.ChangedPayloadGivesAnyByteAtEachRead := by
  refine ⟨fun s payload found later i hb hi hlen hchg => ?_, fun i s b later answers hp he hti hlt hchg hans => ?_⟩
  · obtain ⟨hchk, hleft⟩ := builder_data_chk (s := s) hi
    refine ⟨_, exec_of_ph hb, ?_, ?_⟩
    · rw [hchk, hchg, observed_changed payload found later hlen]
      rfl
    · rw [hleft, hchg, ← hlen, ← List.length_map (f := some), List.drop_left]
  · have hpay : s.sendsPayload = true := by simpa [State.sendsPayload] using hti
    have hbyte : s.sendByte = b := by simp [State.sendByte, hpay, State.payByte, hchg]
    have hok := txAnswer_listed hans
    obtain ⟨ph, hdone⟩ := txBodyDone_eq (s.pastByte.afterTx (escFirst b))
    refine ⟨(s.pastByte.afterTx (escFirst b)).goto ph, ?_, ?_, ?_, ?_⟩
    · rw [exec_of_ph hp]
      exact txBodyStep_eq_next.mpr (.inr ⟨he, hlt, .inl ⟨hok, by rw [hbyte, hdone]⟩⟩)
    · rw [State.goto_events, State.afterTx_events, pastByte_txAnswer, hok]
      rfl
    · simp [hbyte, escSecond, slipEnd, slipEsc, slipEscEnd, slipEscEsc]
    · simp [State.changesLeft, hpay, hchg]

end Sys2Proof.Machine
end

section
/-! PROOFS. Runs of a busy machine: states some number of steps apart. -/

namespace Sys2Proof.Machine

variable {s t u : State} {i : Instr}

/-- Some number of steps leads from one state to the other. -/
def State.Reaches (s t : State) : Prop := ∃ k, run k s = .next t

theorem State.Reaches.refl (s : State) : s.Reaches s := ⟨0, run_zero s⟩

theorem State.Reaches.trans (h : s.Reaches t) (h' : t.Reaches u) : s.Reaches u := by
  obtain ⟨k, hk⟩ := h
  obtain ⟨n, hn⟩ := h'
  exact ⟨k + n, (run_add hk n).trans hn⟩

theorem State.Reaches.of_step (h : step s = .next t) : s.Reaches t := ⟨1, run_succ_of_next h 0⟩

/-- The invariant holds of every state reached from one that has it. -/
theorem State.Reaches.inv (h : s.Reaches t) (hs : s.Inv) : t.Inv := by
  obtain ⟨k, hk⟩ := h
  induction k generalizing s with
  | zero => cases hk; exact hs
  | succ k ih =>
    cases hx : step s with
    | next u => exact ih (stepKeepsTheInvariant s u hs hx) (run_succ_of_next hx k ▸ hk)
    | fault f => rw [run_succ_of_fault hx] at hk; cases hk
    | refused r => rw [run_succ_of_refused hx] at hk; cases hk

/-- The latch holds a command, and no pulse will come. -/
structure State.Runs (s : State) (i : Instr) : Prop where
  holds : s.Holds i
  rst : s.rstIn = []

/-- Outside IDLE such a machine takes the command's step. -/
theorem State.Runs.reaches (h : s.Runs i) (hi : s.ph ≠ .idle) (hx : exec i s = .next t) : s.Reaches t := by
  refine .of_step ?_
  rw [step_of_busy (by simp [State.rstNow, h.rst]) hi h.holds, takeRst_of_nil h.rst, hx]

end Sys2Proof.Machine
end

section
/-! PROOFS. FrameSend (spec/40_slip_codec.md R152, R153): what the machine still has to send, and the run that sends it. -/

namespace Sys2Proof.Machine

variable {s : State} {i : Instr} {as : List TxAnswer} {e : TransportErr} {w : Byte} {ws : Bytes}

/-! ## The bytes to send -/

/-- The bytes FrameSend sends before escaping: BODY, and the payload of a data command. -/
def State.record (s : State) : Bytes := s.body ++ if isDataId s.curCmd then s.pay else []

/-- What holds while a frame with a held payload is sent: there is a record, PAY has L bytes, and no change of it is listed. -/
structure State.SendReady (s : State) : Prop where
  body_ne : s.body ≠ []
  pay_length : s.pay.length = s.len.toNat
  held : s.payChg = []

theorem State.SendReady.record_length (h : s.SendReady) : s.record.length = s.sendTotal := by
  unfold State.record State.sendTotal
  split <;> simp [h.pay_length]

theorem State.SendReady.record_ne (h : s.SendReady) : s.record ≠ [] := by simp [State.record, h.body_ne]

/-- The byte TX_BODY is at is the record's. -/
theorem State.SendReady.sendByte_eq {b : Byte} {rest : Bytes} (h : s.SendReady) (hd : s.record.drop s.ti = b :: rest) :
    s.sendByte = b := by
  have hb : s.record[s.ti]? = some b := by simpa [hd] using (List.getElem?_drop (xs := s.record) (i := s.ti) (j := 0)).symm
  by_cases hlt : s.ti < s.body.length
  · rw [State.record, List.getElem?_append_left hlt] at hb
    simp [State.sendByte, State.sendsPayload, Nat.not_le.mpr hlt, List.getD_eq_getElem?_getD, hb]
  · rw [State.record, List.getElem?_append_right (by omega)] at hb
    split at hb
    · simp [State.sendByte, State.sendsPayload, hlt, State.payByte, h.held, hb]
    · simp at hb

/-! ## Where FrameSend stands -/

/-- The registers that say where FrameSend stands. -/
structure SendPos where
  ph : Phase
  ti : Nat
  escp : Option Byte

def State.sendPos (s : State) : SendPos := ⟨s.ph, s.ti, s.escp⟩

/-- The state with FrameSend come to a position, some answers left and some events added. -/
def State.sendAt (s : State) (pos : SendPos) (answers : List TxAnswer) (added : List PortEvent) : State :=
  { s with ph := pos.ph, ti := pos.ti, escp := pos.escp, txAns := answers, events := s.events ++ added }

theorem State.sendAt_sendAt (pos pos' : SendPos) (as as' : List TxAnswer) (added added' : List PortEvent) :
    (s.sendAt pos as added).sendAt pos' as' added' = s.sendAt pos' as' (added ++ added') := by
  simp [State.sendAt]

theorem State.sendAt_self (s : State) : s.sendAt s.sendPos s.txAns [] = s := by simp [State.sendAt, State.sendPos]

theorem State.SendReady.sendAt (h : s.SendReady) (pos : SendPos) (as : List TxAnswer) (added : List PortEvent) :
    (s.sendAt pos as added).SendReady := { h with }

theorem State.Runs.sendAt (h : s.Runs i) (pos : SendPos) (as : List TxAnswer) (added : List PortEvent) :
    (s.sendAt pos as added).Runs i := ⟨h.holds, h.rst⟩

/-- The position past a byte of the record: the rest of the record follows, or the trailer. -/
def SendPos.pastByte (record : Bytes) (ti : Nat) (escp : Option Byte) : SendPos :=
  ⟨if escp = none ∧ ti = record.length then .txTrail else .txBody, ti, escp⟩

/-- The wire bytes FrameSend still has to send, by its position in the record. -/
def SendPos.Owes (record : Bytes) (pos : SendPos) (wire : Bytes) : Prop :=
  match pos.ph with
  | .txLead => wire = frame record
  | .txBody => wire = pos.escp.toList ++ (esc (record.drop pos.ti) ++ [slipEnd]) ∧ pos.ti ≤ record.length ∧
      ¬ (pos.escp = none ∧ pos.ti = record.length)
  | .txTrail => wire = [slipEnd] ∧ pos.escp = none ∧ pos.ti = record.length
  | .rxHunt => wire = [] ∧ pos.escp = none ∧ pos.ti = record.length
  | .idle | .build | .rxData | .rxEsc | .rxTrail | .matching | .status => False

theorem SendPos.pastByte_owes {record : Bytes} {ti : Nat} (hti : ti ≤ record.length) (escp : Option Byte) :
    (SendPos.pastByte record ti escp).Owes record (escp.toList ++ (esc (record.drop ti) ++ [slipEnd])) := by
  unfold SendPos.pastByte
  by_cases hend : escp = none ∧ ti = record.length
  · rw [if_pos hend]
    obtain ⟨rfl, rfl⟩ := hend
    exact ⟨by simp [esc], rfl, rfl⟩
  · rw [if_neg hend]
    exact ⟨rfl, hti, hend⟩

/-- Where nothing is owed the frame is sent. -/
theorem SendPos.Owes.sent {record : Bytes} {pos : SendPos} (h : pos.Owes record []) : pos = ⟨.rxHunt, record.length, none⟩ := by
  obtain ⟨ph, ti, escp⟩ := pos
  cases ph with
  | rxHunt =>
    obtain ⟨_, he, hti⟩ := h
    simpa using ⟨hti, he⟩
  | idle | build | txLead | txBody | txTrail | rxData | rxEsc | rxTrail | matching | status => simp [SendPos.Owes, frame] at h

/-! ## The operations of a sending step -/

theorem tryTx_sendAt_ok (pos : SendPos) (k : State → Out) :
    tryTx w (s.sendAt pos (.ok :: as) []) k = k (s.sendAt pos as [.tx w .ok]) := by
  simp [tryTx, State.afterTx, State.sendAt, State.txAnswer]

theorem tryTx_sendAt_err (pos : SendPos) (k : State → Out) :
    tryTx w (s.sendAt pos (.err e :: as) []) k = .next ((s.sendAt pos as [.tx w (.err e)]).complete (transportResult e)) := by
  simp [tryTx, raiseTransport, State.afterTx, State.sendAt, State.txAnswer]

/-- Moving past a byte of a held payload uses up no change. -/
theorem State.SendReady.pastByte_eq (h : s.SendReady) :
    s.pastByte = s.sendAt ⟨s.ph, s.ti + 1, escSecond s.sendByte⟩ s.txAns [] := by
  have hchg : s.changesLeft = s.payChg := by simp [State.changesLeft, h.held]
  simp [State.pastByte, hchg, State.sendAt]

theorem State.SendReady.txBodyDone_eq (h : s.SendReady) (hp : s.ph = .txBody) :
    txBodyDone s = s.sendAt (SendPos.pastByte s.record s.ti s.escp) s.txAns [] := by
  rw [txBodyDone, ← h.record_length, SendPos.pastByte]
  split <;> simp [State.sendAt, State.goto, ← hp]

/-! ## One step -/

/-- The step that offers an owed byte: a TxWrite of it, from which it goes on to owe the rest. -/
theorem exec_owes (hr : s.SendReady) (h : s.sendPos.Owes s.record (w :: ws)) (i : Instr) :
    ∃ pos pos' k, exec i s = tryTx w (s.sendAt pos s.txAns []) k ∧
      (∀ as added, k (s.sendAt pos as added) = .next (s.sendAt pos' as added)) ∧ pos'.Owes s.record ws := by
  have hbody (ti : Nat) (escp : Option Byte) (as : List TxAnswer) (added : List PortEvent) :
      txBodyDone (s.sendAt ⟨.txBody, ti, escp⟩ as added) = s.sendAt (SendPos.pastByte s.record ti escp) as added := by
    rw [(hr.sendAt _ as added).txBodyDone_eq rfl, State.sendAt_sendAt, List.append_nil]
    rfl
  cases hp : s.ph with
  | txLead =>
    simp only [SendPos.Owes, State.sendPos, hp, frame, List.cons.injEq] at h
    obtain ⟨rfl, rfl⟩ := h
    refine ⟨s.sendPos, ⟨.txBody, 0, none⟩, fun u => .next u.beginBody, ?_, fun _ _ => rfl, rfl, Nat.zero_le _,
      fun hend => ?_⟩
    · rw [exec_of_ph hp, State.sendAt_self, txLeadStep]
    · exact hr.record_ne (List.length_eq_zero_iff.mp hend.2.symm)
  | txBody =>
    simp only [SendPos.Owes, State.sendPos, hp] at h
    obtain ⟨hw, hle, hmore⟩ := h
    cases he : s.escp with
    | some w' =>
      simp only [he, Option.toList_some, List.singleton_append, List.cons.injEq] at hw
      obtain ⟨rfl, rfl⟩ := hw
      refine ⟨⟨.txBody, s.ti, none⟩, SendPos.pastByte s.record s.ti none, fun u => .next (txBodyDone u), ?_,
        fun _ _ => congrArg _ (hbody _ _ _ _), SendPos.pastByte_owes hle none⟩
      have hdrop : s.dropEscp = s.sendAt ⟨.txBody, s.ti, none⟩ s.txAns [] := by simp [State.dropEscp, State.sendAt, ← hp]
      refine (exec_of_ph hp).trans ?_
      simp only [txBodyStep, he, txEscapeStep, hdrop]
    | none =>
      have hlt : s.ti < s.record.length := lt_of_le_of_ne hle fun hend => hmore ⟨he, hend⟩
      obtain ⟨b, hb⟩ : ∃ b, s.record.drop s.ti = b :: s.record.drop (s.ti + 1) := ⟨_, List.drop_eq_getElem_cons hlt⟩
      simp only [he, hb, esc, esc1, List.flatMap_cons, Option.toList_none, List.nil_append, List.cons_append, List.cons.injEq,
        List.append_assoc] at hw
      obtain ⟨rfl, rfl⟩ := hw
      refine ⟨⟨.txBody, s.ti + 1, escSecond b⟩, SendPos.pastByte s.record (s.ti + 1) (escSecond b),
        fun u => .next (txBodyDone u), ?_, fun _ _ => congrArg _ (hbody _ _ _ _), SendPos.pastByte_owes hlt _⟩
      refine (exec_of_ph hp).trans ?_
      simp only [txBodyStep, he, if_pos (hr.record_length ▸ hlt), txByteStep, hr.pastByte_eq, hr.sendByte_eq hb, hp]
  | txTrail =>
    simp only [SendPos.Owes, State.sendPos, hp, List.cons.injEq] at h
    obtain ⟨⟨rfl, rfl⟩, he, hti⟩ := h
    refine ⟨s.sendPos, ⟨.rxHunt, s.ti, s.escp⟩, fun u => .next (u.goto .rxHunt), ?_, fun _ _ => rfl, rfl, he, hti⟩
    rw [exec_of_ph hp, State.sendAt_self, txTrailStep]
  | rxHunt => simp [SendPos.Owes, State.sendPos, hp] at h
  | idle | build | rxData | rxEsc | rxTrail | matching | status => simp [SendPos.Owes, State.sendPos, hp] at h

/-! ## The whole frame -/

theorem SendPos.Owes.ph_ne_idle {record wire : Bytes} {pos : SendPos} (h : pos.Owes record wire) : pos.ph ≠ .idle := by
  intro hp
  simp [SendPos.Owes, hp] at h

/-- The machine sends what it owes as `sendWire` does on the listed answers: all of it, or up to the first failure, which ends the
command. -/
theorem reaches_sendWire {wire : Bytes} {sent : Sent} (hrun : s.Runs i) (hr : s.SendReady) (ho : s.sendPos.Owes s.record wire)
    (h : sendWire wire s.txAns = some sent) :
    (sent.err = none → s.Reaches (s.sendAt ⟨.rxHunt, s.record.length, none⟩ sent.rest sent.events)) ∧
    ∀ e, sent.err = some e → ∃ pos, s.Reaches ((s.sendAt pos sent.rest sent.events).complete (transportResult e)) := by
  induction wire generalizing s sent with
  | nil =>
    obtain rfl : (⟨[], none, s.txAns⟩ : Sent) = sent := by simpa [sendWire] using h
    refine ⟨fun _ => ?_, by simp⟩
    rw [← ho.sent, State.sendAt_self]
    exact .refl s
  | cons w ws ih =>
    obtain ⟨pos, pos', k, hx, hk, ho'⟩ := exec_owes hr ho i
    have hi : s.ph ≠ .idle := ho.ph_ne_idle
    cases ha : s.txAns with
    | nil => simp [ha, sendWire] at h
    | cons a as =>
      cases a with
      | ok =>
        simp only [ha, sendWire, Option.map_eq_some_iff] at h
        obtain ⟨later, hlater, rfl⟩ := h
        have hstep : s.Reaches (s.sendAt pos' as [.tx w .ok]) :=
          hrun.reaches hi (by rw [hx, ha, tryTx_sendAt_ok, hk])
        obtain ⟨hall, hfail⟩ := ih (hrun.sendAt pos' as [.tx w .ok]) (hr.sendAt _ _ _) ho' hlater
        simp only [State.sendAt_sendAt, List.singleton_append] at hall hfail
        exact ⟨fun hn => hstep.trans (hall hn), fun e he => (hfail e he).imp fun _ hf => hstep.trans hf⟩
      | err e =>
        obtain rfl : (⟨[.tx w (.err e)], some e, as⟩ : Sent) = sent := by simpa [ha, sendWire] using h
        refine ⟨by simp, ?_⟩
        rintro _ ⟨rfl⟩
        exact ⟨pos, hrun.reaches hi (by rw [hx, ha, tryTx_sendAt_err])⟩

end Sys2Proof.Machine
end

section
/-! PROOFS. FrameReceive (spec/40_slip_codec.md R160 to R164): the run that receives a frame. -/

namespace Sys2Proof.Machine

variable {s : State} {i : Instr} {b : Byte} {e : TransportErr} {rest : List RxAnswer} {n : Nat} {r : Received}

/-! ## Where FrameReceive stands -/

/-- The state with some answers used, and others left. -/
def State.took (s : State) (used rest : List RxAnswer) : State :=
  { s with rxAns := rest, events := s.events ++ used.map .rx }

/-- The state with RB and RI written and some answers used. -/
def State.withFrame (s : State) (rb : Bytes) (ri : Nat) (used rest : List RxAnswer) : State :=
  { s.took used rest with rb := rb, ri := ri }

/-- What a receive leaves in RB and RI when it goes on from position RI. -/
def State.received (s : State) (r : Received) : State :=
  s.withFrame (s.rb.take s.ri ++ r.bytes ++ s.rb.drop (s.ri + r.bytes.length)) (s.ri + r.bytes.length) r.used r.rest

/-- What a receive's end does: on to MATCH, or the completion of the command (R163, R164, R402). -/
def State.endFrame (s : State) : FrameEnd → State
  | .good => s.goto .matching
  | .transport e => s.complete (transportResult e)
  | .badEscape => s.complete (invalidResult .badEscape)
  | .badTrailer => s.complete (invalidResult .badTrailer)

theorem State.Runs.took (h : s.Runs i) (used rest : List RxAnswer) : (s.took used rest).Runs i := ⟨h.holds, h.rst⟩

/-- The end of a receive does not depend on the phase it is in. -/
theorem endFrame_goto (s : State) (ph : Phase) (fin : FrameEnd) : (s.goto ph).endFrame fin = s.endFrame fin := by
  cases fin <;> rfl

theorem received_goto (s : State) (ph : Phase) (r : Received) : (s.goto ph).received r = (s.received r).goto ph := rfl

/-- A receive that decodes nothing more leaves RB and RI. -/
theorem received_stop (s : State) (fin : FrameEnd) (used rest : List RxAnswer) :
    s.received (.stop fin used rest) = s.took used rest := by
  simp [State.received, Received.stop, State.withFrame, State.took]

/-- Answers used, then more of them. -/
theorem received_took (s : State) (used rest : List RxAnswer) (r : Received) :
    (s.took used rest).received r = s.received (r.after used) := by
  simp [State.received, State.withFrame, State.took, Received.after]

/-- A byte stored, then the rest of the receive: but for the phase, the receive with that byte before it. -/
theorem received_store (hri : s.ri < s.rb.length) (m : Nat) (b : Byte) (r : Received) :
    (s.store m b).received r = (s.received (r.store b)).goto (s.store m b).ph := by
  have hset : (s.rb.set s.ri b).take (s.ri + 1) = s.rb.take s.ri ++ [b] := by
    rw [List.take_add_one, List.take_set_of_le le_rfl, List.getElem?_set_self hri, Option.toList_some]
  have hdrop : (s.rb.set s.ri b).drop (s.ri + 1 + r.bytes.length) = s.rb.drop (s.ri + (r.bytes.length + 1)) := by
    rw [List.drop_set_of_lt (by omega), Nat.add_assoc, Nat.add_comm 1]
  simp only [State.received, State.store_rb, State.store_ri, hset, hdrop]
  simp [State.withFrame, State.took, State.store, State.goto, Received.store, Nat.add_assoc, Nat.add_comm 1]

/-! ## The operations of a receiving step -/

theorem tryRx_byte (h : s.rxAns = .byte b :: rest) (k : Byte → State → Out) : tryRx s k = k b (s.took [.byte b] rest) := by
  simp [tryRx, State.afterRx, State.took, State.rxAnswer, h]

theorem tryRx_err (h : s.rxAns = .err e :: rest) (k : Byte → State → Out) :
    tryRx s k = .next ((s.took [.err e] rest).endFrame (.transport e)) := by
  simp [tryRx, raiseTransport, State.afterRx, State.took, State.rxAnswer, State.endFrame, h]

/-- In every receive phase a listed error ends the command. -/
theorem exec_rx_err (hp : s.ph.receives = true) (h : s.rxAns = .err e :: rest) (i : Instr) :
    exec i s = .next ((s.took [.err e] rest).endFrame (.transport e)) := by
  cases hph : s.ph with
  | rxHunt | rxData | rxEsc | rxTrail => exact (exec_of_ph hph).trans (tryRx_err h _)
  | idle | build | txLead | txBody | txTrail | matching | status => simp [hph, Phase.receives] at hp

/-! ## The run -/

/-- A step on a listed error, as the receive that stops there. -/
theorem reaches_rx_err (hrun : s.Runs i) (hp : s.ph.receives = true) (h : s.rxAns = .err e :: rest) :
    s.Reaches ((s.received (.stop (.transport e) [.err e] rest)).endFrame (.transport e)) := by
  have hi : s.ph ≠ .idle := by rintro hph; simp [hph, Phase.receives] at hp
  rw [received_stop]
  exact hrun.reaches hi (exec_rx_err hp h i)

/-- RX_TRAIL takes one more byte, as `receiveTrail`. -/
theorem reaches_receiveTrail (hrun : s.Runs i) (hp : s.ph = .rxTrail) (h : receiveTrail s.rxAns = some r) :
    s.Reaches ((s.received r).endFrame r.fin) := by
  cases ha : s.rxAns with
  | nil => simp [ha, receiveTrail] at h
  | cons a rest =>
    simp only [ha] at h
    cases a with
    | err e =>
      obtain rfl := Option.some.inj h
      exact reaches_rx_err hrun (by rw [hp]; rfl) ha
    | byte b =>
      obtain rfl := Option.some.inj h
      rw [received_stop]
      refine hrun.reaches (by simp [hp]) (((exec_of_ph hp).trans (tryRx_byte ha _)).trans ?_)
      by_cases hb : b = slipEnd <;> simp [hb, Received.stop, State.endFrame, raiseInvalid]

/-- Answers used, a byte stored, and the rest of the receive after it: the receive with that byte before it. -/
theorem reaches_store {used : List RxAnswer} {v : Byte} (hri : s.ri < s.rb.length)
    (h : ((s.took used rest).store defaultParams.respLen v).Reaches
      ((((s.took used rest).store defaultParams.respLen v).received r).endFrame r.fin)) :
    ((s.took used rest).store defaultParams.respLen v).Reaches ((s.received ((r.store v).after used)).endFrame r.fin) := by
  rwa [received_store (s := s.took used rest) hri, endFrame_goto, received_took] at h

/-- RX_DATA goes on to RX_ESC on ESC. -/
theorem reaches_rxEsc (hrun : s.Runs i) (hp : s.ph = .rxData) (ha : s.rxAns = .byte slipEsc :: rest) :
    s.Reaches ((s.took [.byte slipEsc] rest).goto .rxEsc) :=
  hrun.reaches (by simp [hp]) ((exec_of_ph hp).trans ((tryRx_byte ha _).trans (if_pos rfl)))

/-- A listed error in place of the follow byte ends the command. -/
theorem reaches_escape_err (hrun : s.Runs i) (hp : s.ph = .rxData) (ha : s.rxAns = .byte slipEsc :: .err e :: rest) :
    s.Reaches ((s.received (.stop (.transport e) [.byte slipEsc, .err e] rest)).endFrame (.transport e)) := by
  have herr := reaches_rx_err (s := (s.took [.byte slipEsc] (.err e :: rest)).goto .rxEsc) ⟨hrun.holds, hrun.rst⟩ rfl rfl
  rw [received_goto, endFrame_goto, received_took] at herr
  exact (reaches_rxEsc hrun hp ha).trans herr

/-- A bad escape pair ends the command. -/
theorem reaches_escape_bad {c : Byte} (hrun : s.Runs i) (hp : s.ph = .rxData) (ha : s.rxAns = .byte slipEsc :: .byte c :: rest)
    (hv : unescape defaultParams c = none) :
    s.Reaches ((s.received (.stop .badEscape [.byte slipEsc, .byte c] rest)).endFrame .badEscape) := by
  have hrun' : ((s.took [.byte slipEsc] (.byte c :: rest)).goto .rxEsc).Runs i := ⟨hrun.holds, hrun.rst⟩
  refine (reaches_rxEsc hrun hp ha).trans (hrun'.reaches (by simp) ((exec_of_ph rfl).trans ((tryRx_byte rfl _).trans ?_)))
  rw [received_stop]
  simp [hv, raiseInvalid, State.took, State.goto, State.endFrame, State.complete]

/-- An escape pair stores the byte it stands for. -/
theorem reaches_escape_store {c v : Byte} (hrun : s.Runs i) (hp : s.ph = .rxData)
    (ha : s.rxAns = .byte slipEsc :: .byte c :: rest) (hv : unescape defaultParams c = some v) :
    s.Reaches ((s.took [.byte slipEsc, .byte c] rest).store defaultParams.respLen v) := by
  have hrun' : ((s.took [.byte slipEsc] (.byte c :: rest)).goto .rxEsc).Runs i := ⟨hrun.holds, hrun.rst⟩
  refine (reaches_rxEsc hrun hp ha).trans (hrun'.reaches (by simp) ((exec_of_ph rfl).trans ((tryRx_byte rfl _).trans ?_)))
  simp [hv, State.took, State.goto, State.store]

/-- A byte that is not ESC is stored. -/
theorem reaches_byte_store (hrun : s.Runs i) (hp : s.ph = .rxData) (ha : s.rxAns = .byte b :: rest) (hb : ¬ b = slipEsc) :
    s.Reaches ((s.took [.byte b] rest).store defaultParams.respLen b) :=
  hrun.reaches (by simp [hp]) ((exec_of_ph hp).trans ((tryRx_byte ha _).trans (if_neg hb)))

/-- A command's machine that has `n` positions of a frame still to receive. -/
structure State.Receives (s : State) (i : Instr) (n : Nat) : Prop where
  runs : s.Runs i
  rb_length : s.rb.length = defaultParams.respLen
  ri_add : s.ri + n = defaultParams.respLen
  ph : s.ph = if s.ri < defaultParams.respLen then .rxData else .rxTrail

theorem State.Receives.ph_trail (h : s.Receives i 0) : s.ph = .rxTrail :=
  h.ph.trans (if_neg (by have := h.ri_add; omega))

theorem State.Receives.ri_lt (h : s.Receives i (n + 1)) : s.ri < s.rb.length := by
  have := h.ri_add
  have := h.rb_length
  omega

theorem State.Receives.ph_data (h : s.Receives i (n + 1)) : s.ph = .rxData := h.ph.trans (if_pos (h.rb_length ▸ h.ri_lt))

theorem State.Receives.store (h : s.Receives i (n + 1)) (used rest : List RxAnswer) (v : Byte) :
    ((s.took used rest).store defaultParams.respLen v).Receives i n :=
  ⟨⟨h.runs.holds, h.runs.rst⟩, (List.length_set ..).trans h.rb_length, (Nat.add_right_comm _ _ _).trans h.ri_add, rfl⟩

/-- RX_DATA and RX_ESC receive the positions still to come and the trailer, as `receiveData`. -/
theorem reaches_receiveData {answers : List RxAnswer} (hs : s.Receives i n) (ha : s.rxAns = answers)
    (h : receiveData defaultParams n answers = some r) : s.Reaches ((s.received r).endFrame r.fin) := by
  fun_induction receiveData defaultParams n answers generalizing s r with
  | case1 answers => exact reaches_receiveTrail hs.runs hs.ph_trail (ha ▸ h)
  | case2 | case4 => cases h
  | case3 n e rest =>
    obtain rfl := Option.some.inj h
    exact reaches_rx_err hs.runs (by rw [hs.ph_data]; rfl) ha
  | case5 n e rest =>
    obtain rfl := Option.some.inj h
    exact reaches_escape_err hs.runs hs.ph_data ha
  | case6 n c rest hv =>
    obtain rfl := Option.some.inj h
    exact reaches_escape_bad hs.runs hs.ph_data ha hv
  | case7 n c rest v hv ih =>
    obtain ⟨r, hr, rfl⟩ := Option.map_eq_some_iff.mp h
    exact (reaches_escape_store hs.runs hs.ph_data ha hv).trans (reaches_store hs.ri_lt (ih (hs.store _ _ _) rfl hr))
  | case8 n b rest hb ih =>
    obtain ⟨r, hr, rfl⟩ := Option.map_eq_some_iff.mp h
    exact (reaches_byte_store hs.runs hs.ph_data ha hb).trans (reaches_store hs.ri_lt (ih (hs.store _ _ _) rfl hr))

end Sys2Proof.Machine
end

section
/-! PROOFS. Await (spec/43_response_matcher.md R300 to R304): from RX_HUNT to the completion. -/

namespace Sys2Proof.Machine

variable {s : State} {i : Instr} {n fuel : Nat} {p : Params} {r : Received} {answers : List RxAnswer} {a : Awaited}

/-! ## A frame -/

/-- A trailer adds no byte to a frame. -/
theorem receiveTrail_bytes (h : receiveTrail answers = some r) : r.bytes = [] := by
  cases answers with
  | nil => simp [receiveTrail] at h
  | cons a _ => cases a <;> (obtain rfl := Option.some.inj h; rfl)

/-- A receive that ends well has decoded all its bytes. -/
theorem receiveData_good_length (h : receiveData p n answers = some r) (hg : r.fin = .good) : r.bytes.length = n := by
  fun_induction receiveData p n answers generalizing r with
  | case1 => rw [receiveTrail_bytes h]; rfl
  | case2 | case4 => cases h
  | case3 | case5 | case6 => obtain rfl := Option.some.inj h; cases hg
  | case7 _ _ _ _ _ ih | case8 _ _ _ _ ih =>
    obtain ⟨r, hr, rfl⟩ := Option.map_eq_some_iff.mp h
    exact congrArg Nat.succ (ih hr hg)

theorem frameReceive_good_length (h : frameReceive p n answers = some r) (hg : r.fin = .good) : r.bytes.length = n := by
  fun_induction frameReceive p n answers generalizing r with
  | case1 => cases h
  | case2 => obtain rfl := Option.some.inj h; cases hg
  | case3 =>
    obtain ⟨r, hr, rfl⟩ := Option.map_eq_some_iff.mp h
    exact (receiveData_good_length hr hg :)
  | case4 _ _ _ ih =>
    obtain ⟨r, hr, rfl⟩ := Option.map_eq_some_iff.mp h
    exact (ih hr hg :)

theorem took_withFrame (s : State) (used used' rest rest' : List RxAnswer) (rb : Bytes) (ri : Nat) :
    (s.took used rest).withFrame rb ri used' rest' = s.withFrame rb ri (used ++ used') rest' := by
  simp [State.withFrame, State.took]

/-- A receive that begins at position 0 writes RB from its first byte. -/
theorem received_beginData (s : State) (r : Received) :
    s.beginData.received r = (s.withFrame (r.bytes ++ s.rb.drop r.bytes.length) r.bytes.length r.used r.rest).goto .rxData := by
  simp [State.received, State.withFrame, State.took, State.beginData, State.goto]

/-- From RX_HUNT the machine receives a frame as `frameReceive` does on the listed answers. -/
theorem reaches_frameReceive (hrun : s.Runs i) (hrb : s.rb.length = defaultParams.respLen) (hp : s.ph = .rxHunt)
    (ha : s.rxAns = answers) (h : frameReceive defaultParams defaultParams.respLen answers = some r) :
    ∃ ri, s.Reaches ((s.withFrame (r.bytes ++ s.rb.drop r.bytes.length) ri r.used r.rest).endFrame r.fin) := by
  have hi : s.ph ≠ .idle := by simp [hp]
  fun_induction frameReceive defaultParams defaultParams.respLen answers generalizing s r with
  | case1 => cases h
  | case2 e rest =>
    obtain rfl := Option.some.inj h
    exact ⟨s.ri, hrun.reaches hi (exec_rx_err (by rw [hp]; rfl) ha i)⟩
  | case3 rest =>
    obtain ⟨r, hr, rfl⟩ := Option.map_eq_some_iff.mp h
    have hstep := (exec_of_ph hp (i := i)).trans ((tryRx_byte ha _).trans (if_pos rfl))
    have hdata := reaches_receiveData (s := (s.took [.byte slipEnd] rest).beginData)
      ⟨⟨hrun.holds, hrun.rst⟩, hrb, Nat.zero_add _, rfl⟩ rfl hr
    rw [received_beginData, endFrame_goto, took_withFrame] at hdata
    exact ⟨r.bytes.length, (hrun.reaches hi hstep).trans hdata⟩
  | case4 b rest hb ih =>
    obtain ⟨r, hr, rfl⟩ := Option.map_eq_some_iff.mp h
    have hstep := (exec_of_ph hp (i := i)).trans ((tryRx_byte ha _).trans (if_neg hb))
    obtain ⟨ri, hlater⟩ := ih (s := s.took [.byte b] rest) (hrun.took _ _) hrb hp rfl hr hi
    rw [took_withFrame] at hlater
    exact ⟨ri, (hrun.reaches hi hstep).trans hlater⟩

/-! ## The response -/

/-- The state a command's completion leaves, after the frames awaited. -/
def State.answered (s : State) (rb : Bytes) (ri : Nat) (ndisc : Word) (a : Awaited) : State :=
  { s with
    rb := rb, ri := ri, ndisc := ndisc, ph := .idle, res := some a.result, rxAns := a.rest
    events := s.events ++ a.events }

theorem withFrame_complete (s : State) (rb : Bytes) (ri : Nat) (used rest : List RxAnswer) (result : Result) :
    (s.withFrame rb ri used rest).complete result = s.answered rb ri s.ndisc (.finish (used.map .rx) result rest) := by
  simp [State.answered, State.withFrame, State.took, State.complete, Awaited.finish]

/-- A matching frame ends the command as its status says (R301, R303, R304). -/
theorem reaches_statusOf {rb : Bytes} {ri : Nat} {used rest : List RxAnswer} (hrun : s.Runs i)
    (hm : frameMatches rb s.curCmd = true) :
    ((s.withFrame rb ri used rest).goto .matching).Reaches
      (s.answered rb ri s.ndisc (statusOf s.want (used.map .rx) rb rest)) := by
  have hmatch : exec i ((s.withFrame rb ri used rest).goto .matching) = .next ((s.withFrame rb ri used rest).goto .status) :=
    (exec_of_ph rfl).trans (matchStep_eq_next.mpr (if_pos hm))
  have hstatus : exec i ((s.withFrame rb ri used rest).goto .status) =
      .next (s.answered rb ri s.ndisc (statusOf s.want (used.map .rx) rb rest)) := by
    refine (exec_of_ph rfl).trans (statusStep_eq_next.mpr ?_)
    by_cases hf : statusFails rb = true
    · simp [hf, statusOf, State.answered, State.withFrame, State.took, State.emit, State.complete, Awaited.finish, State.goto]
    · simp [hf, statusOf, State.answered, State.withFrame, State.took, State.complete, Awaited.finish, State.goto]
  have hrun' (ph : Phase) : ((s.withFrame rb ri used rest).goto ph).Runs i := ⟨hrun.holds, hrun.rst⟩
  exact ((hrun' _).reaches (by simp) hmatch).trans ((hrun' _).reaches (by simp) hstatus)

/-- A frame that does not match is discarded, and the machine receives again; the default bound is never exceeded (R301, R302). -/
theorem reaches_discard {rb : Bytes} {ri : Nat} {used rest : List RxAnswer} (hrun : s.Runs i)
    (hm : ¬ frameMatches rb s.curCmd = true) :
    ((s.withFrame rb ri used rest).goto .matching).Reaches ((s.withFrame rb ri used rest).countDiscard.goto .rxHunt) := by
  have hrun' : ((s.withFrame rb ri used rest).goto .matching).Runs i := ⟨hrun.holds, hrun.rst⟩
  have hbound : ¬ discardExceeds defaultParams.maxDiscard s.ndisc = true := Bool.false_ne_true
  exact hrun'.reaches (by simp) ((exec_of_ph rfl).trans (matchStep_eq_next.mpr ((if_neg hm).trans (if_neg hbound))))

/-- The response that follows a discarded frame, with that frame's bytes before it. -/
theorem discarded_answered (s : State) (rb rb' : Bytes) (ri ri' : Nat) (used rest : List RxAnswer) (ndisc : Word) (a : Awaited) :
    ((s.withFrame rb ri used rest).countDiscard.goto .rxHunt).answered rb' ri' ndisc a =
      s.answered rb' ri' ndisc { a with events := used.map .rx ++ a.events } := by
  simp [State.answered, State.withFrame, State.took, State.goto, State.countDiscard]

/-- From RX_HUNT the machine awaits the response as `await` does on the listed answers. -/
theorem reaches_await (hrun : s.Runs i) (hrb : s.rb.length = defaultParams.respLen) (hp : s.ph = .rxHunt)
    (h : await defaultParams s.curCmd s.want fuel s.ndisc s.rxAns = some a) :
    ∃ rb ri ndisc, s.Reaches (s.answered rb ri ndisc a) := by
  induction fuel generalizing s a with
  | zero => cases h
  | succ fuel ih =>
    simp only [await, Option.bind_eq_some_iff] at h
    obtain ⟨r, hr, h⟩ := h
    obtain ⟨ri, hframe⟩ := reaches_frameReceive hrun hrb hp rfl hr
    cases hf : r.fin with
    | transport e | badEscape | badTrailer =>
      simp only [hf, Option.some.injEq] at h
      rw [hf, State.endFrame, withFrame_complete, h] at hframe
      exact ⟨_, _, _, hframe⟩
    | good =>
      have hlen := frameReceive_good_length hr hf
      rw [hf, hlen, ← hrb, List.drop_length, List.append_nil, State.endFrame] at hframe
      simp only [hf] at h
      by_cases hm : frameMatches r.bytes s.curCmd = true
      · simp only [hm, if_true, Option.some.injEq] at h
        subst h
        exact ⟨_, _, _, hframe.trans (reaches_statusOf hrun hm)⟩
      · simp only [hm, discardExceeds, defaultParams, if_false, Bool.false_eq_true, Option.map_eq_some_iff] at h
        obtain ⟨a, ha, rfl⟩ := h
        obtain ⟨rb, ri', ndisc, hlater⟩ := ih (s := (s.withFrame r.bytes ri r.used r.rest).countDiscard.goto .rxHunt)
          ⟨hrun.holds, hrun.rst⟩ hlen rfl ha
        rw [discarded_answered] at hlater
        exact ⟨rb, ri', ndisc, hframe.trans ((reaches_discard hrun hm).trans hlater)⟩

end Sys2Proof.Machine
end

section
/-! PROOFS. Execute, and one command after the other (spec/42_commands.md R221, 20_memory.md R72, 60_exceptions.md R407). -/

namespace Sys2Proof

variable {i : Instr}

/-! ## From the request to the record -/

/-- The request of a well-formed command presents its whole payload. -/
theorem Instr.toRequest_payload (h : i.wf = true) : i.toRequest.payload = i.payload := by
  cases i with
  | flashData payload | memData payload =>
    have hlen : payload.length < 2 ^ 32 := by simpa [Instr.wf, payloadFits] using h
    exact Machine.Request.payload_eq hlen
  | sync | flashBegin | flashEnd | memBegin | memEnd | writeReg | readReg | spiAttach => rfl

/-- The block decodes a well-formed command's request to that command. -/
theorem decodeRequest_toRequest (h : i.wf = true) : decodeRequest i.toRequest = .ok i := by
  have hpay := i.toRequest_payload h
  refine decodeRequest_eq_ok.mpr ⟨i.cmd, i.toRequest_cmd, ?_⟩
  cases i with
  | flashData => exact congrArg Instr.flashData hpay
  | memData => exact congrArg Instr.memData hpay
  | sync | flashBegin | flashEnd | memBegin | memEnd | writeReg | readReg | spiAttach => rfl

theorem instrOf_payload (c : Cmd) (r : Machine.Request) : (instrOf c r).payload = if c.isData then r.payload else [] := by
  cases c <;> rfl

namespace Machine

variable {s u : State} {i : Instr} {later : List Request} {x : Executed}

theorem isDataId_id (c : Cmd) : isDataId c.id = c.isData := by simp [isDataId, Cmd.ofId?_id]

/-- What FrameSend sends after BODY is the payload of the command in the latch. -/
theorem State.Holds.record_eq (h : s.Holds i) (hl : s.pay.length = s.len.toNat) : s.record = s.body ++ i.payload := by
  obtain ⟨c, hc, rfl⟩ := decodeRequest_eq_ok.mp h
  have hpay : s.latched.payload = s.pay := Request.payload_eq (show s.pay.length < _ from hl ▸ s.len.isLt)
  have hcmd : s.curCmd = c.id := hc
  rw [State.record, hcmd, isDataId_id, instrOf_payload, hpay]

/-- BUILD with a held payload writes the header and the fields, and leaves the payload held. -/
theorem builder_held (i : Instr) (h : s.payChg = []) :
    (builder i s).body = i.header ++ i.fields s.seq ∧ (builder i s).payChg = [] := by
  have hchk : (headerChk i.cmd (builder i s).chk).setWidth 32 = i.chk32 := by
    cases i with
    | flashData payload | memData payload =>
      have hread : observed payload s.payChg = payload := by rw [h, observed_nil]
      exact congrArg (fun bytes => (checksum bytes).setWidth 32) hread
    | sync | flashBegin | flashEnd | memBegin | memEnd | writeReg | readReg | spiAttach => rfl
  refine ⟨by rw [builder_body_eq, hchk]; rfl, ?_⟩
  cases i with
  | flashData payload | memData payload => exact (congrArg (List.drop payload.length) h).trans List.drop_nil
  | sync | flashBegin | flashEnd | memBegin | memEnd | writeReg | readReg | spiAttach => exact h

theorem builder_runs (h : s.Runs i) : (builder i s).Runs i := by
  obtain ⟨_, hlatch, _, _, _, _, _, _, _, _, _, _, _, hrst, _, _⟩ := builder_frame i s
  exact ⟨h.holds.of_latched hlatch, hrst.trans h.rst⟩

theorem builder_sendReady (i : Instr) (hl : s.pay.length = s.len.toNat) (hc : s.payChg = []) : (builder i s).SendReady := by
  obtain ⟨hbody, hheld⟩ := builder_held i hc
  obtain ⟨_, hlatch, _, hlen, _⟩ := builder_frame i s
  refine ⟨?_, ?_, hheld⟩
  · rw [hbody]
    exact List.cons_ne_nil _ _
  · rw [hlen, ← hl]
    exact congrArg (fun r => r.pay.length) hlatch

/-- What BUILD makes ready to send is the command's record. -/
theorem builder_record (h : s.Runs i) (hl : s.pay.length = s.len.toNat) (hc : s.payChg = []) :
    (builder i s).record = encode i s.seq := by
  rw [(builder_runs h).holds.record_eq (builder_sendReady i hl hc).pay_length, (builder_held i hc).1]
  rfl

/-! ## Acceptance and BUILD -/

/-- The state at the end of BUILD of a command accepted in a state, with the requests that follow it. -/
structure State.Built (s : State) (i : Instr) (later : List Request) (u : State) : Prop where
  runs : u.Runs i
  ready : u.SendReady
  ph : u.ph = .txLead
  record : u.record = encode i s.seq
  curCmd : u.curCmd = i.cmd.id
  want : u.want = decide (i.cmd = .readReg)
  ndisc : u.ndisc = 0
  seq : u.seq = seqAfter i s.seq
  rb : u.rb = s.rb
  reqs : u.reqs = later
  txAns : u.txAns = s.txAns
  rxAns : u.rxAns = s.rxAns
  draws : u.draws = s.draws
  events : u.events = s.events

/-- The request that stands first in IDLE is accepted and its record built, with the payload held. -/
theorem reaches_built (hwf : i.wf = true) (hi : s.ph = .idle) (hr : s.rstIn = []) (hc : s.payChg = [])
    (hq : s.reqs = i.toRequest :: later) : ∃ u, s.Reaches u ∧ s.Built i later u := by
  have haccept := step_of_request (by simp [State.rstNow, hr]) hi hq i.toRequest_cmd
  rw [takeRst_of_nil hr] at haccept
  have hrun : (s.dropRequest.accept i.toRequest).Runs i := ⟨accept_holds (decodeRequest_toRequest hwf), hr⟩
  obtain ⟨fph, _, fwant, _, _, _, frb, _, fndisc, _, freqs, ftx, frx, _, fdraws, fevents⟩ :=
    builder_frame i (s.dropRequest.accept i.toRequest)
  exact ⟨_, (State.Reaches.of_step haccept).trans (hrun.reaches (by simp) (exec_of_ph rfl)),
    { runs := builder_runs hrun
      ready := builder_sendReady i (Request.payload_length _) hc
      ph := fph
      record := builder_record hrun (Request.payload_length _) hc
      curCmd := (builder_runs hrun).holds.curCmd
      want := by simp [fwant, i.toRequest_cmd, Cmd.id_inj]
      ndisc := fndisc
      seq := builder_seq i _
      rb := frb
      reqs := by simp [freqs, hq]
      txAns := ftx
      rxAns := frx
      draws := fdraws
      events := fevents }⟩

/-! ## Whole commands -/

/-- The state a whole command leaves in all but the per-command registers, with the requests that follow it. -/
structure State.Completes (s : State) (x : Executed) (later : List Request) (t : State) : Prop where
  ph : t.ph = .idle
  res : t.res = some x.result
  events : t.events = s.events ++ x.events
  seq : t.seq = x.seq
  txAns : t.txAns = x.txRest
  rxAns : t.rxAns = x.rxRest
  reqs : t.reqs = later
  rst : t.rstIn = []
  held : t.payChg = []
  draws : t.draws = s.draws

/-- From IDLE the machine executes the command first on REQ as `executed` does on the listed answers. -/
theorem reaches_executed (hs : s.Inv) (hwf : i.wf = true) (hi : s.ph = .idle) (hr : s.rstIn = []) (hc : s.payChg = [])
    (hq : s.reqs = i.toRequest :: later) (hx : executed defaultParams i s.seq s.txAns s.rxAns = some x) :
    ∃ t, s.Reaches t ∧ s.Completes x later t := by
  obtain ⟨u, hu, hb⟩ := reaches_built hwf hi hr hc hq
  simp only [executed, Option.bind_eq_some_iff] at hx
  obtain ⟨sent, hsent, hx⟩ := hx
  rw [← hb.record, ← hb.txAns] at hsent
  have howes : u.sendPos.Owes u.record (frame u.record) := by simp [SendPos.Owes, State.sendPos, hb.ph]
  obtain ⟨hall, hfail⟩ := reaches_sendWire hb.runs hb.ready howes hsent
  cases he : sent.err with
  | some e =>
    simp only [he, Option.some.injEq] at hx
    subst hx
    obtain ⟨pos, hend⟩ := hfail e he
    exact ⟨_, hu.trans hend, rfl, rfl, by simp [State.sendAt, hb.events], hb.seq, rfl, hb.rxAns, hb.reqs,
      hb.runs.rst, hb.ready.held, hb.draws⟩
  | none =>
    simp only [he, Option.map_eq_some_iff] at hx
    obtain ⟨a, ha, rfl⟩ := hx
    rw [← hb.curCmd, ← hb.want, ← hb.ndisc, ← hb.rxAns] at ha
    obtain ⟨rb, ri, ndisc, hend⟩ := reaches_await (s := u.sendAt ⟨.rxHunt, u.record.length, none⟩ sent.rest sent.events)
      (hb.runs.sendAt _ _ _) (hb.rb ▸ hs.rb_length) rfl ha
    exact ⟨_, hu.trans ((hall he).trans hend), rfl, rfl, by simp [State.answered, State.sendAt, hb.events], hb.seq, rfl, rfl,
      hb.reqs, hb.runs.rst, hb.ready.held, hb.draws⟩

/-! ## One RES a command -/

theorem sendWire_no_res {wire : Bytes} {answers : List TxAnswer} {sent : Sent} (h : sendWire wire answers = some sent) :
    sent.events.filter PortEvent.isRes = [] := by
  fun_induction sendWire wire answers generalizing sent with
  | case1 => obtain rfl := Option.some.inj h; rfl
  | case2 => cases h
  | case3 => obtain rfl := Option.some.inj h; rfl
  | case4 _ _ _ ih =>
    obtain ⟨sent, hs, rfl⟩ := Option.map_eq_some_iff.mp h
    exact (ih hs :)

/-- A completion adds its result's RES to events without one. -/
theorem finish_one_res {events : List PortEvent} (h : events.filter PortEvent.isRes = []) (result : Result) (rest : List RxAnswer) :
    (Awaited.finish events result rest).events.filter PortEvent.isRes = [.res result] := by
  simp [Awaited.finish, h, PortEvent.isRes]

theorem statusOf_one_res {used : List PortEvent} (h : used.filter PortEvent.isRes = []) (want : Bool) (rb : Bytes)
    (rest : List RxAnswer) :
    (statusOf want used rb rest).events.filter PortEvent.isRes = [.res (statusOf want used rb rest).result] := by
  unfold statusOf
  split
  · exact finish_one_res (by simp [h, PortEvent.isRes]) _ rest
  · exact finish_one_res h _ rest

/-- Awaiting ends with the one RES of its result. -/
theorem await_one_res {p : Params} {cmd : Byte} {want : Bool} {fuel : Nat} {ndisc : Word} {answers : List RxAnswer} {a : Awaited}
    (h : await p cmd want fuel ndisc answers = some a) : a.events.filter PortEvent.isRes = [.res a.result] := by
  induction fuel generalizing ndisc answers a with
  | zero => cases h
  | succ fuel ih =>
    simp only [await, Option.bind_eq_some_iff] at h
    obtain ⟨r, _, h⟩ := h
    have hused : (r.used.map PortEvent.rx).filter PortEvent.isRes = [] := by simp [PortEvent.isRes]
    cases hf : r.fin with
    | transport e | badEscape | badTrailer =>
      simp only [hf, Option.some.injEq] at h
      exact h ▸ finish_one_res hused _ _
    | good =>
      simp only [hf] at h
      split at h
      · exact Option.some.inj h ▸ statusOf_one_res hused _ _ _
      · split at h
        · exact Option.some.inj h ▸ finish_one_res hused _ _
        · obtain ⟨a, ha, rfl⟩ := Option.map_eq_some_iff.mp h
          simpa [hused] using ih ha

theorem executed_one_res {seq : Word} {txAns : List TxAnswer} {rxAns : List RxAnswer}
    (h : executed defaultParams i seq txAns rxAns = some x) : x.events.filter PortEvent.isRes = [.res x.result] := by
  simp only [executed, Option.bind_eq_some_iff] at h
  obtain ⟨sent, hsent, h⟩ := h
  cases he : sent.err with
  | some e =>
    simp only [he, Option.some.injEq] at h
    subst h
    simp [sendWire_no_res hsent, PortEvent.isRes]
  | none =>
    simp only [he, Option.map_eq_some_iff] at h
    obtain ⟨a, ha, rfl⟩ := h
    simp [sendWire_no_res hsent, await_one_res ha]

/-- Settles O46: by induction on the commands, each by `reaches_executed` from the state the one before it left, in which the
invariant holds again; each adds one RES by `executed_one_res`. -/
theorem machineRunsCommandsInSequence : Obligations.MachineRunsCommandsInSequence := by
  intro is
  induction is with
  | nil =>
    intro s y hs _ hi hr hc hq h
    obtain rfl := Option.some.inj h
    exact ⟨0, s, rfl, hi, by simp, rfl, rfl, rfl, hq, by simp⟩
  | cons i is ih =>
    intro s y hs hwf hi hr hc hq h
    simp only [session, Option.bind_eq_some_iff, Option.map_eq_some_iff] at h
    obtain ⟨x, hx, y, hy, rfl⟩ := h
    obtain ⟨t, ht, hd⟩ := reaches_executed hs (hwf i (by simp)) hi hr hc hq hx
    rw [← hd.seq, ← hd.txAns, ← hd.rxAns] at hy
    obtain ⟨k, u, hk, hph, hevents, hseq, htx, hrx, hreqs, hres⟩ :=
      ih t y (ht.inv hs) (fun j hj => hwf j (by simp [hj])) hd.ph hd.rst hd.held hd.reqs hy
    obtain ⟨k', hk'⟩ := ht.trans ⟨k, hk⟩
    refine ⟨k', u, hk', hph, by simp [hevents, hd.events], hseq, htx, hrx, hreqs, ?_⟩
    simp [hres, hd.events, executed_one_res hx]

end Machine
end Sys2Proof
end

section
/-! PROOFS. Records both ways (spec/30_encoding.md sections 3, 4 and 8): which header bytes the opcode table reads, which bytes each
command's fields are, and so which bytes read as a command. -/

namespace Sys2Proof

open Machine

variable {i : Instr} {c : Cmd} {w : HeaderWord} {bs rest : Bytes} {q : Option Word}

/-! ## The header backwards -/

/-- The bytes of a header's number are the header's bytes, in wire order. -/
theorem ofLe64_bytes (b0 b1 b2 b3 b4 b5 b6 b7 : Byte) :
    (ofLe64 b0 b1 b2 b3 b4 b5 b6 b7).extractLsb' 0 8 = b0 ∧ (ofLe64 b0 b1 b2 b3 b4 b5 b6 b7).extractLsb' 8 8 = b1 ∧
    (ofLe64 b0 b1 b2 b3 b4 b5 b6 b7).extractLsb' 16 8 = b2 ∧ (ofLe64 b0 b1 b2 b3 b4 b5 b6 b7).extractLsb' 24 8 = b3 ∧
    (ofLe64 b0 b1 b2 b3 b4 b5 b6 b7).extractLsb' 32 8 = b4 ∧ (ofLe64 b0 b1 b2 b3 b4 b5 b6 b7).extractLsb' 40 8 = b5 ∧
    (ofLe64 b0 b1 b2 b3 b4 b5 b6 b7).extractLsb' 48 8 = b6 ∧ (ofLe64 b0 b1 b2 b3 b4 b5 b6 b7).extractLsb' 56 8 = b7 := by
  unfold ofLe64
  refine ⟨?_, ?_, ?_, ?_, ?_, ?_, ?_, ?_⟩ <;> repeat rw [BitVec.extractLsb'_append_eq_of_le (by decide)]
  case refine_8 => exact BitVec.extractLsb'_eq_self
  all_goals exact BitVec.extractLsb'_append_eq_right

/-- Each row of the opcode table asks for the header bytes of its command, and leaves the checksum byte of a data command free
(30_encoding.md section 8). -/
theorem opcodeTable_row : ∀ r ∈ opcodeTable,
    r.mask = ofLe64 0xFF 0xFF 0xFF 0xFF (if r.cmd.isData then 0x00 else 0xFF) 0xFF 0xFF 0xFF ∧
    r.bits = ofLe64 0x00 r.cmd.id (BitVec.ofNat 8 r.cmd.psize) 0x00 0x00 0x00 0x00 0x00 := by decide

/-- A row covers eight bytes only if they are its command's header: byte by byte, the mask leaves them as they are, or drops the
checksum byte of a data command. -/
theorem TableRow.covers_ofLe64 {r : TableRow} {b0 b1 b2 b3 b4 b5 b6 b7 : Byte} (hr : r ∈ opcodeTable)
    (h : r.covers (ofLe64 b0 b1 b2 b3 b4 b5 b6 b7) = true) : [b0, b1, b2, b3, b4, b5, b6, b7] =
      [0x00, r.cmd.id, BitVec.ofNat 8 r.cmd.psize, 0x00, headerChk r.cmd b4, 0x00, 0x00, 0x00] := by
  obtain ⟨hmask, hbits⟩ := opcodeTable_row r hr
  rw [TableRow.covers, decide_eq_true_eq, hmask, hbits] at h
  have hbyte (k : Nat) := congrArg (BitVec.extractLsb' k 8) h
  have hones (b : Byte) : b &&& 0xFF = b := BitVec.and_allOnes
  have h0 := hbyte 0; have h1 := hbyte 8; have h2 := hbyte 16; have h3 := hbyte 24
  have h4 := hbyte 32; have h5 := hbyte 40; have h6 := hbyte 48; have h7 := hbyte 56
  simp only [BitVec.extractLsb'_and, ofLe64_bytes, hones] at h0 h1 h2 h3 h4 h5 h6 h7
  have hchk : headerChk r.cmd b4 = b4 := by
    cases hd : r.cmd.isData with
    | true => simp [headerChk, hd]
    | false =>
      simp only [hd, Bool.false_eq_true, if_false, hones] at h4
      simp [headerChk, hd, h4]
  rw [h0, h1, h2, h3, h5, h6, h7, hchk]

/-- A header whose eight bytes the table reads as a command has that command's bytes. -/
theorem decodeHeader_ofLe64 {b0 b1 b2 b3 b4 b5 b6 b7 : Byte} (h : decodeHeader (ofLe64 b0 b1 b2 b3 b4 b5 b6 b7) = .ok c) :
    [b0, b1, b2, b3, b4, b5, b6, b7] = [0x00, c.id, BitVec.ofNat 8 c.psize, 0x00, headerChk c b4, 0x00, 0x00, 0x00] := by
  unfold decodeHeader at h
  split at h
  · rename_i r hr
    cases h
    have hcovers := List.find?_some hr
    exact TableRow.covers_ofLe64 (List.mem_of_find?_eq_some hr) hcovers
  · cases h

/-- A header's number is that of its bytes, and the table reads it (R64, R103). -/
theorem headerWord_headerChk (c : Cmd) (chk : Byte) :
    headerWord c (headerChk c chk) = ofLe64 0x00 c.id (BitVec.ofNat 8 c.psize) 0x00 (headerChk c chk) 0x00 0x00 0x00 ∧
    decodeHeader (headerWord c (headerChk c chk)) = .ok c := by
  obtain ⟨hword, hdecode⟩ := ofLe64_hdr (c := c) (b := headerChk c chk) fun hd => by simp [headerChk, hd]
  exact ⟨hword.symm, hdecode⟩

theorem headerChk_idem (c : Cmd) (chk : Byte) : headerChk c (headerChk c chk) = headerChk c chk := by
  cases hd : c.isData <;> simp [headerChk, hd]

theorem headerWord_chk (c : Cmd) (chk : Byte) : (headerWord c (headerChk c chk)).extractLsb' 32 8 = headerChk c chk := by
  simp only [headerWord_headerChk, ofLe64_bytes]

/-- The header of a command (R102, R103): its eight bytes stand first, and their number is a word of the table for it. -/
theorem takeHeader_decodeHeader : takeHeader bs = .ok (w, rest) ∧ decodeHeader w = .ok c ↔
    ∃ chk, w = headerWord c (headerChk c chk) ∧
      bs = hdr c (BitVec.ofNat 16 c.psize) ((headerChk c chk).setWidth 32) ++ rest := by
  simp only [hdr_eq]
  constructor
  · rintro ⟨hw, hc⟩
    unfold takeHeader at hw
    split at hw
    · rename_i b4 _ _ _ _
      cases hw
      have hbytes := decodeHeader_ofLe64 hc
      refine ⟨b4, ?_, congrArg (· ++ rest) hbytes⟩
      simp only [List.cons.injEq, and_true] at hbytes
      obtain ⟨rfl, rfl, rfl, rfl, h4, rfl, rfl, rfl⟩ := hbytes
      rw [(headerWord_headerChk c b4).1, ← h4]
    · cases hw
  · rintro ⟨chk, rfl, rfl⟩
    obtain ⟨hword, hdecode⟩ := headerWord_headerChk c chk
    exact ⟨by rw [hword]; rfl, hdecode⟩

/-! ## The fields backwards -/

theorem takeWord_eq_ok_iff {v : Word} : takeWord bs = .ok (v, rest) ↔ bs = le32 v ++ rest :=
  ⟨takeWord_eq_ok, fun h => h ▸ takeWord_le32 v rest⟩

theorem takeEnd_eq_ok_iff {j : Instr} : takeEnd bs j = .ok (i, q) ↔ bs = [] ∧ j = i ∧ q = none := by
  by_cases h : bs = [] <;> simp [takeEnd, h, @eq_comm _ none]

theorem takeOne_eq_ok {f : Word → Instr} : takeOne bs f = .ok (i, q) ↔ ∃ a, bs = le32 a ∧ f a = i ∧ q = none := by
  simp [takeOne, Decoded.bind_eq_ok, takeWord_eq_ok_iff, takeEnd_eq_ok_iff]

theorem takeTwo_eq_ok {f : Word → Word → Instr} :
    takeTwo bs f = .ok (i, q) ↔ ∃ a b, bs = le32 a ++ le32 b ∧ f a b = i ∧ q = none := by
  simp [takeTwo, Decoded.bind_eq_ok, takeWord_eq_ok_iff, takeOne_eq_ok]

theorem takeFour_eq_ok {f : Word → Word → Word → Word → Instr} : takeFour bs f = .ok (i, q) ↔
    ∃ a b c d, bs = le32 a ++ le32 b ++ le32 c ++ le32 d ∧ f a b c d = i ∧ q = none := by
  simp [takeFour, Decoded.bind_eq_ok, takeWord_eq_ok_iff, takeTwo_eq_ok]

theorem takeMagic_eq_ok : takeMagic bs = .ok (i, q) ↔ bs = syncMagic ∧ .sync = i ∧ q = none := by
  by_cases h : bs = syncMagic <;> simp [takeMagic, h, eq_comm]

/-- A decoder that rejects under a condition accepts where that fails and the rest accepts. -/
theorem Decoded.ite_rejected_eq_ok {α : Type} {p : Prop} [Decidable p] {why : DecodeReject} {d : Decoded α} {a : α} :
    (if p then .rejected why else d) = .ok a ↔ ¬ p ∧ d = .ok a := by
  by_cases h : p <;> simp [h]

theorem takeSpi_eq_ok : takeSpi bs = .ok (i, q) ↔ ∃ a, bs = le32 a ++ le32 0 ∧ .spiAttach a = i ∧ q = none := by
  simp only [takeSpi, Decoded.bind_eq_ok, Prod.exists, takeWord_eq_ok_iff, Decoded.ite_rejected_eq_ok, takeEnd_eq_ok_iff, not_not]
  constructor
  · rintro ⟨a, _, rfl, _, _, rfl, rfl, rfl, hi, hq⟩
    exact ⟨a, by rw [List.append_nil], hi, hq⟩
  · rintro ⟨a, rfl, hi, hq⟩
    exact ⟨a, _, rfl, 0, [], (List.append_nil _).symm, rfl, rfl, hi, hq⟩

/-- The fields of a data command are its payload's length, a sequence number and two zero words; the payload follows, and has the
header's checksum (R107, R110, R103). -/
theorem takeData_eq_ok {chk : Byte} {f : Bytes → Instr} : takeData chk bs f = .ok (i, q) ↔
    ∃ seq payload, bs = le32 (BitVec.ofNat 32 payload.length) ++ le32 seq ++ le32 0 ++ le32 0 ++ payload ∧
      payloadFits payload = true ∧ checksum payload = chk ∧ f payload = i ∧ q = some seq := by
  simp only [takeData, Decoded.bind_eq_ok, Prod.exists, takeWord_eq_ok_iff, Decoded.ite_rejected_eq_ok, Decoded.ok.injEq,
    Prod.mk.injEq, not_or, not_not, payloadFits, decide_eq_true_eq, List.append_assoc]
  constructor
  · rintro ⟨size, _, rfl, seq, _, rfl, _, _, rfl, _, payload, rfl, ⟨rfl, rfl⟩, hlen, hchk, hi, hq⟩
    have hsize : BitVec.ofNat 32 payload.length = size := by rw [← hlen, BitVec.ofNat_toNat, BitVec.setWidth_eq]
    exact ⟨seq, payload, by rw [hsize], hlen ▸ size.isLt, hchk, hi, hq.symm⟩
  · rintro ⟨seq, payload, rfl, hfits, hchk, hi, hq⟩
    exact ⟨_, _, rfl, seq, _, rfl, 0, _, rfl, 0, payload, rfl, ⟨rfl, rfl⟩, Nat.mod_eq_of_lt hfits, hchk, hi, hq.symm⟩

/-- The fields of a command (R105 to R114), backwards: what the header's kind makes of the bytes after it is a well-formed command
of that kind, whose fields and payload they are, and whose checksum is in the header. -/
theorem takeFields_eq_ok : takeFields c w bs = .ok (i, q) ↔
    i.cmd = c ∧ i.wf = true ∧ headerChk c (checksum i.payload) = headerChk c (w.extractLsb' 32 8) ∧
      ∃ seq, q = i.carriedSeq seq ∧ bs = i.fields seq ++ i.payload := by
  constructor
  · intro h
    cases c with
    | sync =>
      obtain ⟨rfl, rfl, rfl⟩ := takeMagic_eq_ok.mp h
      exact ⟨rfl, rfl, rfl, 0, rfl, rfl⟩
    | flashBegin | memBegin | writeReg =>
      obtain ⟨a, b, c, d, rfl, rfl, rfl⟩ := takeFour_eq_ok.mp h
      exact ⟨rfl, rfl, rfl, 0, rfl, (List.append_nil _).symm⟩
    | flashData | memData =>
      obtain ⟨seq, payload, rfl, hwf, hchk, rfl, rfl⟩ := takeData_eq_ok.mp h
      exact ⟨rfl, hwf, hchk, seq, rfl, rfl⟩
    | flashEnd | readReg =>
      obtain ⟨a, rfl, rfl, rfl⟩ := takeOne_eq_ok.mp h
      exact ⟨rfl, rfl, rfl, 0, rfl, (List.append_nil _).symm⟩
    | memEnd =>
      obtain ⟨a, b, rfl, rfl, rfl⟩ := takeTwo_eq_ok.mp h
      exact ⟨rfl, rfl, rfl, 0, rfl, (List.append_nil _).symm⟩
    | spiAttach =>
      obtain ⟨a, rfl, rfl, rfl⟩ := takeSpi_eq_ok.mp h
      exact ⟨rfl, rfl, rfl, 0, rfl, (List.append_nil _).symm⟩
  · rintro ⟨rfl, hwf, hchk, seq, rfl, rfl⟩
    cases i with
    | sync => exact takeMagic_eq_ok.mpr ⟨List.append_nil _, rfl, rfl⟩
    | flashBegin a b c d | memBegin a b c d | writeReg a b c d =>
      exact takeFour_eq_ok.mpr ⟨a, b, c, d, List.append_nil _, rfl, rfl⟩
    | flashData payload | memData payload => exact takeData_eq_ok.mpr ⟨seq, payload, rfl, hwf, hchk, rfl, rfl⟩
    | flashEnd a | readReg a => exact takeOne_eq_ok.mpr ⟨a, List.append_nil _, rfl, rfl⟩
    | memEnd a b => exact takeTwo_eq_ok.mpr ⟨a, b, List.append_nil _, rfl, rfl⟩
    | spiAttach a => exact takeSpi_eq_ok.mpr ⟨a, List.append_nil _, rfl, rfl⟩

/-! ## Records -/

/-- The header the encoder writes is the one BUILD writes with the payload's checksum (R103). -/
theorem Instr.header_eq (i : Instr) :
    i.header = hdr i.cmd (BitVec.ofNat 16 i.cmd.psize) ((headerChk i.cmd (checksum i.payload)).setWidth 32) := by
  have hchk : i.chk32 = (headerChk i.cmd (checksum i.payload)).setWidth 32 := by
    rw [Instr.chk32, headerChk, apply_ite (BitVec.setWidth 32)]
    rfl
  rw [Instr.header, hchk]
  rfl

/-- What the decoder of records reads, both ways: the records of well-formed commands, each as its command, and no other bytes. -/
theorem decodeRecord_eq_ok : decodeRecord bs = .ok (i, q) ↔
    i.wf = true ∧ ∃ seq, q = i.carriedSeq seq ∧ encode i seq = bs := by
  simp only [decodeRecord, Decoded.bind_eq_ok, Prod.exists]
  constructor
  · rintro ⟨w, rest, hw, c, hc, hf⟩
    obtain ⟨chk, rfl, rfl⟩ := takeHeader_decodeHeader.mp ⟨hw, hc⟩
    obtain ⟨rfl, hwf, hchk, seq, hq, rfl⟩ := takeFields_eq_ok.mp hf
    rw [headerWord_chk] at hchk
    exact ⟨hwf, seq, hq, by rw [encode, i.header_eq, hchk, headerChk_idem, List.append_assoc]⟩
  · rintro ⟨hwf, seq, hq, rfl⟩
    obtain ⟨hw, hc⟩ := (takeHeader_decodeHeader (bs := encode i seq) (rest := i.fields seq ++ i.payload)).mpr
      ⟨checksum i.payload, rfl, by rw [encode, i.header_eq, List.append_assoc]⟩
    refine ⟨_, _, hw, _, hc, takeFields_eq_ok.mpr ⟨rfl, hwf, ?_, seq, hq, rfl⟩⟩
    rw [headerWord_chk, headerChk_idem]

/-- Settles O4: `decodeRecord_eq_ok` from the record to the command. -/
theorem recordDecodesToItsCommand : Obligations.RecordDecodesToItsCommand :=
  fun _ seq hwf => decodeRecord_eq_ok.mpr ⟨hwf, seq, rfl, rfl⟩

/-- Settles O5: `decodeRecord_eq_ok` from the bytes to the record. -/
theorem recordsAreCanonical : Obligations.RecordsAreCanonical :=
  fun _ _ _ h => decodeRecord_eq_ok.mp h

end Sys2Proof
end

section
/-! PROOFS. The length of a record, unescaped and on the wire (spec/30_encoding.md R116, R124). -/

namespace Sys2Proof

open Machine

variable {i : Instr} {c : Cmd}

@[simp] theorem le32_length (v : Word) : (le32 v).length = 4 := rfl

theorem Instr.header_length (i : Instr) : i.header.length = hdrLen := rfl

theorem Instr.fields_length (i : Instr) (seq : Word) : (i.fields seq).length = i.cmd.psize := by
  cases i <;> simp [Instr.fields, Instr.cmd, Cmd.psize, syncMagic]

theorem encode_length (i : Instr) (seq : Word) : (encode i seq).length = hdrLen + i.cmd.psize + i.payload.length := by
  rw [encode, List.length_append, List.length_append, i.header_length, i.fields_length]

theorem Cmd.psize_of_isData (h : c.isData = true) : c.psize = 16 := by
  cases c with
  | flashData | memData => rfl
  | sync | flashBegin | flashEnd | memBegin | memEnd | writeReg | readReg | spiAttach => cases h

theorem Instr.payload_of_not_isData (h : i.cmd.isData = false) : i.payload = [] := by
  cases i with
  | flashData | memData => cases h
  | sync | flashBegin | flashEnd | memBegin | memEnd | writeReg | readReg | spiAttach => rfl

/-- Settles O6: by `encode_length`; PSIZE of a data command is 16, and no other command has a payload. -/
theorem recordLengthIsHeaderFieldsPayload : Obligations.RecordLengthIsHeaderFieldsPayload := by
  refine fun i seq => ⟨fun h => ?_, fun h => ?_⟩
  · rw [encode_length, Instr.payload_of_not_isData h, List.length_nil, Nat.add_zero]
  · rw [encode_length, Cmd.psize_of_isData h, hdrLen]

/-- A body byte is escaped by one more byte where it is END or ESC (R151). -/
theorem esc1_length (b : Byte) : (esc1 b).length = 1 + if b = slipEnd ∨ b = slipEsc then 1 else 0 := by
  by_cases hend : b = slipEnd
  · simp [esc1, escSecond, hend]
  · by_cases hesc : b = slipEsc
    · subst hesc; rfl
    · simp [esc1, escSecond, hend, hesc]

theorem esc_length (s : Bytes) : (esc s).length = s.length + s.countP (fun b => b = slipEnd ∨ b = slipEsc) := by
  induction s with
  | nil => rfl
  | cons b s ih =>
    have hcons : esc (b :: s) = esc1 b ++ esc s := List.flatMap_cons
    simp only [hcons, List.length_append, esc1_length, ih, List.length_cons, List.countP_cons, decide_eq_true_eq]
    omega

/-- Settles O30: the two delimiters, and `esc_length`. -/
theorem wireLengthCountsEscapes : Obligations.WireLengthCountsEscapes := by
  intro i seq
  have hesc : (esc (encode i seq)).length =
      (encode i seq).length + (encode i seq).countP (fun b => b = 0xC0 ∨ b = 0xDB) := esc_length _
  simp only [frame, List.length_cons, List.length_append, List.length_nil, hesc]
  omega

end Sys2Proof
end

section
/-! PROOFS. Requests, BUILD of the commands without payload, and error codes (spec/30_encoding.md R101 to R114, R120, R121). -/

namespace Sys2Proof

/-! ## Requests -/

/-- Settles O3: by `decodeRequest_toRequest`. -/
theorem requestDecodesToItsCommand : Obligations.RequestDecodesToItsCommand :=
  fun _ hwf => decodeRequest_toRequest hwf

/-- Every command's id is one of the ten of R101. -/
theorem Cmd.id_mem (c : Cmd) : c.id ∈ ([0x02, 0x03, 0x04, 0x05, 0x06, 0x07, 0x08, 0x09, 0x0A, 0x0D] : List Byte) := by
  cases c <;> decide

namespace Machine

variable {s : State} {i : Instr}

/-- Settles O10: an id outside the ten is no command's, by `Cmd.id_mem`, and the decoder rejects it. -/
theorem unknownCommandIdsAreRefused : Obligations.UnknownCommandIdsAreRefused := by
  intro s r rest hr hi hq hid
  have hnone : Cmd.ofId? r.cmd = none := by
    cases hc : Cmd.ofId? r.cmd with
    | none => rfl
    | some c => exact absurd (Cmd.ofId?_eq_some hc ▸ c.id_mem) hid
  simp [step_of_idle hr hi, idleStep, hq, decodeRequest, hnone]

/-! ## BUILD of a command without payload -/

/-- A command without payload writes the header with checksum field 0 and its fields, gives SEQ its effect, and goes on to FrameSend
(R103, R220, R223). -/
theorem exec_build_plain (hb : s.ph = .build) (hd : i.cmd.isData = false) : exec i s = .next { s with
    seq := seqAfter i s.seq
    body := [0x00, i.cmd.id, BitVec.ofNat 8 i.cmd.psize, 0x00, 0x00, 0x00, 0x00, 0x00] ++ i.fields s.seq
    ph := .txLead } := by
  have hchk : headerChk i.cmd (builder i s).chk = 0x00 := by simp [headerChk, hd]
  have hbody := builder_body_eq i s
  rw [hdr_eq, hchk] at hbody
  rw [exec_of_ph hb, ← hbody]
  cases i with
  | flashData | memData => cases hd
  | sync | flashBegin | flashEnd | memBegin | memEnd | writeReg | readReg | spiAttach => rfl

/-- Settles O15: `exec_build_plain` for the two begin commands, whose effect on SEQ is to restart it. -/
theorem beginCommandsRestartSeqAndBuild : Obligations.BeginCommandsRestartSeqAndBuild :=
  fun _ _ _ _ _ hb => ⟨exec_build_plain hb rfl, exec_build_plain hb rfl⟩

/-- Settles O18: `exec_build_plain` for the two end commands, which have no effect on SEQ. -/
theorem endCommandsBuildVerbatimWords : Obligations.EndCommandsBuildVerbatimWords :=
  fun _ _ _ hb => ⟨exec_build_plain hb rfl, exec_build_plain hb rfl⟩

/-- Settles O19: `exec_build_plain` for the two register commands, which have no effect on SEQ. -/
theorem registerCommandsBuildVerbatimWords : Obligations.RegisterCommandsBuildVerbatimWords :=
  fun _ _ _ _ _ hb => ⟨exec_build_plain hb rfl, exec_build_plain hb rfl⟩

/-- Settles O20: the record by `exec_build_plain`; the decoder takes a request's first word only, by `decodeRequest_eq_ok`. -/
theorem spiAttachBuildsAZeroSecondWord : Obligations.SpiAttachBuildsAZeroSecondWord :=
  ⟨fun _ _ hb => exec_build_plain hb rfl, fun _ hid => decodeRequest_eq_ok.mpr ⟨.spiAttach, hid, rfl⟩⟩

/-! ## Error codes -/

/-- Settles O43: the seven named codes compute; every other byte fails each test of `category`. -/
theorem errorCodeCategories : Obligations.ErrorCodeCategories := by
  refine ⟨rfl, rfl, rfl, rfl, rfl, rfl, rfl, fun b hb => ?_⟩
  simp only [List.mem_cons, List.not_mem_nil, or_false, not_or] at hb
  obtain ⟨h5, h6, h7, h8, h9, hA, hB⟩ := hb
  simp only [category, h5, h6, h7, h8, h9, hA, hB, if_false]

end Machine
end Sys2Proof
end

section
/-! PROOFS. The SLIP codec as functions (spec/40_slip_codec.md R151, R154, R155, R161, R162, R166, R167): what escaping makes of a
body, and what FrameReceive makes of a frame. -/

namespace Sys2Proof.Machine

variable {p : Params} {n : Nat} {x : Bytes} {b : Byte} {answers after rest : List RxAnswer} {r : Received}

/-! ## Escaping -/

/-- The wire bytes of a body byte, pair by pair (R151). -/
theorem esc1_eq (b : Byte) :
    esc1 b = if b = slipEnd then [slipEsc, slipEscEnd] else if b = slipEsc then [slipEsc, slipEscEsc] else [b] := by
  by_cases hend : b = slipEnd
  · simp [esc1, escFirst, escSecond, hend]
  · by_cases hesc : b = slipEsc
    · subst hesc; rfl
    · simp [esc1, escFirst, escSecond, hend, hesc]

theorem esc_cons (b : Byte) (x : Bytes) : esc (b :: x) = esc1 b ++ esc x := List.flatMap_cons

/-- Settles O27: by `esc1_eq`, and `esc` is the concatenation of `esc1` byte by byte. -/
theorem escapeFunction : Obligations.EscapeFunction :=
  ⟨esc1_eq, rfl, esc_cons, fun _ _ => List.flatMap_append⟩

/-- Where no byte is END or ESC, escaping changes nothing (R154). -/
theorem esc_of_no_special (h : ∀ b ∈ x, b ≠ slipEnd ∧ b ≠ slipEsc) : esc x = x := by
  have hplain : ∀ b ∈ x, esc1 b = [b] := fun b hb => by
    obtain ⟨hend, hesc⟩ := h b hb
    rw [esc1_eq, if_neg hend, if_neg hesc]
  rw [esc, List.flatMap_congr hplain, List.flatMap_singleton']

/-- Settles O28: by `esc_of_no_special`; the two delimiters are the other two bytes. -/
theorem frameWithoutSpecialBytesIsVerbatim : Obligations.FrameWithoutSpecialBytesIsVerbatim := by
  intro s h
  have hframe : frame s = [0xC0] ++ s ++ [0xC0] := by rw [frame, esc_of_no_special h]; rfl
  exact ⟨hframe, by simp [hframe]⟩

/-- The bytes that are END or ESC are the ENDs and the ESCs. -/
theorem countP_special (s : Bytes) :
    s.countP (fun b => b = slipEnd ∨ b = slipEsc) = s.count slipEnd + s.count slipEsc := by
  have hne : slipEnd ≠ slipEsc := by decide
  induction s with
  | nil => rfl
  | cons b s ih =>
    rw [List.countP_cons, List.count_cons, List.count_cons, ih]
    by_cases hend : b = slipEnd
    · simp [hend, hne]; omega
    · by_cases hesc : b = slipEsc
      · simp [hesc, hne.symm]; omega
      · simp [hend, hesc]

/-- No wire byte of a body byte is END. -/
theorem end_not_mem_esc1 (b : Byte) : slipEnd ∉ esc1 b := by
  rw [esc1_eq]
  split_ifs with hend hesc
  · decide
  · decide
  · simpa [eq_comm] using hend

theorem end_not_mem_esc (s : Bytes) : slipEnd ∉ esc s := by
  simp [esc, end_not_mem_esc1]

/-- An ESC among the wire bytes of a body byte is the first of a pair. -/
theorem esc1_follow {before follow : Bytes} (h : esc1 b = before ++ slipEsc :: follow) :
    ∃ c, follow = [c] ∧ (c = slipEscEnd ∨ c = slipEscEsc) := by
  have hpair : slipEsc ≠ slipEscEnd ∧ slipEsc ≠ slipEscEsc := by decide
  rw [esc1_eq] at h
  split_ifs at h with hend hesc
  · exact ⟨slipEscEnd, by simp_all [List.cons_eq_append_iff]⟩
  · exact ⟨slipEscEsc, by simp_all [List.cons_eq_append_iff]⟩
  · obtain ⟨_, hb, _⟩ : before = [] ∧ slipEsc = b ∧ follow = [] := by simpa [List.cons_eq_append_iff] using h
    exact absurd hb.symm hesc

/-- Every ESC in an escaped body is followed by ESC_END or ESC_ESC (R155). -/
theorem esc_follow {s before follow : Bytes} (h : esc s = before ++ slipEsc :: follow) :
    ∃ c rest, follow = c :: rest ∧ (c = slipEscEnd ∨ c = slipEscEsc) := by
  induction s generalizing before with
  | nil => simp [esc] at h
  | cons b s ih =>
    rw [esc_cons, List.append_eq_append_iff] at h
    obtain ⟨before', _, hlater⟩ | ⟨front, hfirst, hfront⟩ := h
    · exact ih hlater
    · cases front with
      | nil => exact ih (before := []) hfront.symm
      | cons w follow' =>
        obtain ⟨rfl, rfl⟩ := List.cons.inj hfront
        obtain ⟨c, rfl, hc⟩ := esc1_follow hfirst
        exact ⟨c, _, rfl, hc⟩

/-- Settles O29: the length by `esc_length`, no END by `end_not_mem_esc`, the pairs by `esc_follow`. -/
theorem escapedBodyLengthAndShape : Obligations.EscapedBodyLengthAndShape :=
  fun s => ⟨by rw [esc_length, countP_special, ← Nat.add_assoc]; rfl, end_not_mem_esc s, fun _ _ h => esc_follow h⟩

/-! ## FrameReceive on bytes -/

/-- The hunt uses up the bytes before the first END, and END (R161). -/
theorem frameReceive_hunt {junk : Bytes} (hj : slipEnd ∉ junk) :
    frameReceive p n (junk.map .byte ++ .byte slipEnd :: rest) =
      (receiveData p n rest).map (.after (junk.map .byte ++ [.byte slipEnd])) := by
  induction junk with
  | nil => simp [frameReceive]
  | cons b junk ih =>
    obtain ⟨hb, hj⟩ := List.ne_and_not_mem_of_not_mem_cons hj
    simp only [List.map_cons, List.cons_append, frameReceive, if_neg (Ne.symm hb), ih hj, Option.map_map]
    rfl

/-- What is received of a body that arrives as some wire bytes, with its END, whatever follows. -/
def receivedBody (x wire : Bytes) (after : List RxAnswer) : Received :=
  ⟨x, .good, wire.map .byte ++ [.byte slipEnd], after⟩

theorem receiveTrail_end : receiveTrail (.byte slipEnd :: after) = some (receivedBody [] [] after) := rfl

theorem receivedBody_cons (wire1 wire : Bytes) :
    ((receivedBody x wire after).store b).after (wire1.map .byte) = receivedBody (b :: x) (wire1 ++ wire) after := by
  simp [receivedBody, Received.store, Received.after]

/-- Bytes without ESC are received as themselves, END included (R162, R166). -/
theorem receiveData_verbatim (hx : slipEsc ∉ x) :
    receiveData p x.length (x.map .byte ++ .byte slipEnd :: after) = some (receivedBody x x after) := by
  induction x with
  | nil => exact receiveTrail_end
  | cons b x ih =>
    obtain ⟨hb, hx⟩ := List.ne_and_not_mem_of_not_mem_cons hx
    simp only [List.length_cons, List.map_cons, List.cons_append, receiveData, if_neg (Ne.symm hb), ih hx, Option.map_some]
    exact congrArg some (receivedBody_cons [b] x)

/-- An escaped body is received as the body, where the pair DB DD decodes to DB (R167). -/
theorem receiveData_esc (hp : p.escEscDecode = slipEsc) (x : Bytes) (after : List RxAnswer) :
    receiveData p x.length ((esc x).map .byte ++ .byte slipEnd :: after) = some (receivedBody x (esc x) after) := by
  induction x with
  | nil => exact receiveTrail_end
  | cons b x ih =>
    rw [esc_cons, List.map_append, List.append_assoc, List.length_cons, receiveData_esc1 hp, ih, Option.map_some,
      receivedBody_cons]

/-- A frame with bytes before it is received as its body, and used up with them. -/
theorem frameReceive_body {junk wire : Bytes} (hj : slipEnd ∉ junk)
    (h : receiveData p n (wire.map .byte ++ .byte slipEnd :: after) = some (receivedBody x wire after)) :
    frameReceive p n ((junk ++ slipEnd :: wire ++ [slipEnd]).map .byte ++ after) =
      some ⟨x, .good, (junk ++ slipEnd :: wire ++ [slipEnd]).map .byte, after⟩ := by
  have hstream : (junk ++ slipEnd :: wire ++ [slipEnd]).map RxAnswer.byte ++ after =
      junk.map .byte ++ .byte slipEnd :: (wire.map .byte ++ .byte slipEnd :: after) := by simp
  rw [hstream, frameReceive_hunt hj, h]
  simp [receivedBody, Received.after]

/-- Settles O38: the hunt by `frameReceive_body`, the data by `receiveData_verbatim`. -/
theorem huntDiscardsAndEndIsData : Obligations.HuntDiscardsAndEndIsData :=
  fun _ _ _ _ hjunk hx => frameReceive_body hjunk (receiveData_verbatim hx)

/-- The frame of the one byte ESC decodes to the parameter's value for the pair DB DD (R163). -/
theorem frameReceive_frame_esc (p : Params) :
    frameReceive p 1 ((frame [slipEsc]).map .byte) = some ⟨[p.escEscDecode], .good, (frame [slipEsc]).map .byte, []⟩ := rfl

/-- Settles O37: `frameReceive_body` with nothing before the frame and `receiveData_esc`; another value shows in the frame of ESC. -/
theorem frameRoundTrip : Obligations.FrameRoundTrip := by
  refine fun p => ⟨fun x after hp => ?_, fun hp => ⟨[slipEsc], fun used after h => ?_⟩⟩
  · exact frameReceive_body (junk := []) List.not_mem_nil (receiveData_esc hp x after)
  · have hbytes := congrArg Received.bytes (Option.some.inj ((frameReceive_frame_esc p).symm.trans h))
    exact hp (List.head_eq_of_cons_eq hbytes)

end Sys2Proof.Machine
end

section
/-! PROOFS. FrameSend and FrameReceive of the machine (spec/40_slip_codec.md R152, R153, R160 to R165): what each phase does, and the
runs that send and receive a frame. -/

namespace Sys2Proof.Machine

variable {s : State} {i : Instr} {w : Byte} {later : List TxAnswer} {rest : List RxAnswer} {p : Params} {n : Nat} {r : Received}
  {answers : List RxAnswer}

/-! ## The transmit phases -/

/-- A TxWrite answered `ok` uses up that answer and records the event. -/
theorem tryTx_ok (h : s.txAns = .ok :: later) (k : State → Out) :
    tryTx w s k = k { s with txAns := later, events := s.events ++ [.tx w .ok] } := by
  simp [tryTx, State.afterTx, State.txAnswer, h]

/-- The end of a TX_BODY step goes to the trailer after the last wire byte, and else stays (R153, last line). -/
theorem txBodyDone_of_ph {last : Prop} [Decidable last] (hp : s.ph = .txBody)
    (hlast : s.escp = none ∧ s.ti = s.sendTotal ↔ last) :
    txBodyDone s = { s with ph := if last then .txTrail else .txBody } := by
  rw [txBodyDone, if_congr hlast rfl rfl, ← hp]
  split <;> rfl

/-- A TX_BODY step whose TxWrite is answered `ok`. -/
theorem tryTx_txBodyDone {last : Prop} [Decidable last] (h : s.txAns = .ok :: later) (hp : s.ph = .txBody)
    (hlast : s.escp = none ∧ s.ti = s.sendTotal ↔ last) :
    tryTx w s (fun u => .next (txBodyDone u)) = .next { s with
      ph := if last then .txTrail else .txBody, txAns := later, events := s.events ++ [.tx w .ok] } :=
  (tryTx_ok h _).trans (congrArg _ (txBodyDone_of_ph hp hlast))

/-- A body byte is sent as one wire byte where it is neither END nor ESC. -/
theorem escSecond_eq_none (b : Byte) : escSecond b = none ↔ b ≠ slipEnd ∧ b ≠ slipEsc := by
  by_cases hend : b = slipEnd
  · simp [escSecond, hend]
  · by_cases hesc : b = slipEsc
    · subst hesc; decide
    · simp [escSecond, hend, hesc]

/-- Settles O31: each phase is one TxWrite, by `tryTx_ok` and in TX_BODY `tryTx_txBodyDone`; a held payload has no change to use
up. -/
theorem transmitPhasesOfferOneByte : Obligations.TransmitPhasesOfferOneByte := by
  intro i s answers hans
  refine ⟨fun hp => ?_, fun hp => ?_, fun w hp he => ?_, fun b hp he hlt hc hb => ?_⟩
  · exact (exec_of_ph hp).trans (tryTx_ok hans _)
  · exact (exec_of_ph hp).trans (tryTx_ok hans _)
  · have hstep : txBodyStep s = txEscapeStep w s := by rw [txBodyStep, he]
    exact ((exec_of_ph hp).trans hstep).trans (tryTx_txBodyDone (s := s.dropEscp) hans hp (and_iff_right rfl))
  · subst hb
    have hstep : txBodyStep s = txByteStep s := by rw [txBodyStep, he]; exact if_pos hlt
    have hchg : s.changesLeft = s.payChg := by simp [State.changesLeft, hc]
    have hlast := and_congr_left' (c := s.ti + 1 = s.sendTotal) (escSecond_eq_none s.sendByte)
    refine ((exec_of_ph hp).trans hstep).trans ((tryTx_txBodyDone (s := s.pastByte) hans hp hlast).trans ?_)
    rw [State.pastByte, hchg]
    rfl

/-- Settles O32: by `reaches_sendWire`, since in TX_LEAD the machine owes the frame of its record. -/
theorem frameSendTransmitsTheWholeFrame : Obligations.FrameSendTransmitsTheWholeFrame := by
  intro i s sent hs hh hp hr hc h
  have hready : s.SendReady :=
    { body_ne := fun hnil => absurd hs.body_length.1 (by simp [hnil])
      pay_length := hs.pay_length
      held := hc }
  have hrecord : s.record = s.body ++ i.payload := hh.record_eq hs.pay_length
  have howes : s.sendPos.Owes s.record (frame (s.body ++ i.payload)) := by simp [SendPos.Owes, State.sendPos, hp, hrecord]
  obtain ⟨hall, hfail⟩ := reaches_sendWire ⟨hh, hr⟩ hready howes h
  refine ⟨fun hn => ?_, fun e he => ?_⟩
  · rw [← List.length_append, ← hrecord]
    exact hall hn
  · obtain ⟨pos, k, hk⟩ := hfail e he
    exact ⟨k, pos.ti, pos.escp, hk⟩

/-! ## The receive phases -/

/-- Settles O34: each phase is one RxRead, by `tryRx_byte`, and then a case of what it does with the byte. -/
theorem receivePhasesTakeOneByte : Obligations.ReceivePhasesTakeOneByte := by
  intro i s b answers hans
  refine ⟨fun hp => ?_, fun hp => ?_, fun v hp hv => ?_, fun hp hend hesc => ?_, fun hp hb => ?_, fun hp hb => ?_⟩
  · refine ((exec_of_ph hp).trans (tryRx_byte hans _)).trans ?_
    exact (apply_ite Host.Outcome.next _ _ _).symm
  · refine ((exec_of_ph hp).trans (tryRx_byte hans _)).trans ?_
    exact (apply_ite Host.Outcome.next _ _ _).symm
  · have hpair : unescape defaultParams b = some v := by obtain ⟨rfl, rfl⟩ | ⟨rfl, rfl⟩ := hv <;> rfl
    refine ((exec_of_ph hp).trans (tryRx_byte hans _)).trans ?_
    rw [hpair]
    rfl
  · have hpair : unescape defaultParams b = none := (if_neg hend).trans (if_neg hesc)
    refine ((exec_of_ph hp).trans (tryRx_byte hans _)).trans ?_
    simp [hpair, raiseInvalid, invalidResult, State.complete, State.took]
  · exact ((exec_of_ph hp).trans (tryRx_byte hans _)).trans (if_pos hb)
  · refine (((exec_of_ph hp).trans (tryRx_byte hans _)).trans (if_neg hb)).trans ?_
    simp [raiseInvalid, invalidResult, State.complete, State.took]

/-- Settles O35: by `exec_rx_err`, in whichever receive phase. -/
theorem receiveErrorEndsTheCommand : Obligations.ReceiveErrorEndsTheCommand := by
  intro i s e answers hans hp
  have hrx : s.ph.receives = true := by obtain hp | hp | hp | hp := hp <;> rw [hp] <;> rfl
  rw [exec_rx_err hrx hans]
  simp [State.endFrame, transportResult, State.complete, State.took]

/-! ## The run that receives a frame -/

/-- A frame received whole begins at the first END. -/
theorem frameReceive_good (h : frameReceive p n answers = some r) (hg : r.fin = .good) :
    ∃ (junk : Bytes) (rest : List RxAnswer), slipEnd ∉ junk ∧ answers = junk.map .byte ++ .byte slipEnd :: rest := by
  fun_induction frameReceive p n answers generalizing r with
  | case1 => cases h
  | case2 => obtain rfl := Option.some.inj h; cases hg
  | case3 rest => exact ⟨[], rest, List.not_mem_nil, rfl⟩
  | case4 b _ hb ih =>
    obtain ⟨r, hr, rfl⟩ := Option.map_eq_some_iff.mp h
    obtain ⟨junk, rest, hj, rfl⟩ := ih hr hg
    exact ⟨b :: junk, rest, by simp [hj, Ne.symm hb], rfl⟩

/-- RX_HUNT uses up the bytes before the first END, and END begins the data at position 0 (R161). -/
theorem reaches_hunt {junk : Bytes} (hrun : s.Runs i) (hp : s.ph = .rxHunt) (hj : slipEnd ∉ junk)
    (ha : s.rxAns = junk.map .byte ++ .byte slipEnd :: rest) :
    s.Reaches (s.took (junk.map .byte ++ [.byte slipEnd]) rest).beginData := by
  have hi : s.ph ≠ .idle := by simp [hp]
  induction junk generalizing s with
  | nil => exact hrun.reaches hi ((exec_of_ph hp).trans ((tryRx_byte ha _).trans (if_pos rfl)))
  | cons b junk ih =>
    obtain ⟨hb, hj⟩ := List.ne_and_not_mem_of_not_mem_cons hj
    have hstep := hrun.reaches hi ((exec_of_ph hp).trans ((tryRx_byte ha _).trans (if_neg (Ne.symm hb))))
    have hlater := ih (hrun.took [.byte b] _) hp hj rfl hi
    simpa [State.took] using hstep.trans hlater

/-- A frame received whole leaves RI at its length and the machine in MATCH. -/
theorem reaches_frameReceive_good (hrun : s.Runs i) (hrb : s.rb.length = defaultParams.respLen) (hp : s.ph = .rxHunt)
    (h : frameReceive defaultParams defaultParams.respLen s.rxAns = some r) (hg : r.fin = .good) :
    s.Reaches ((s.withFrame (r.bytes ++ s.rb.drop r.bytes.length) defaultParams.respLen r.used r.rest).goto .matching) := by
  have hlen := frameReceive_good_length h hg
  obtain ⟨junk, rest, hj, ha⟩ := frameReceive_good h hg
  rw [ha, frameReceive_hunt hj] at h
  obtain ⟨r, hr, rfl⟩ := Option.map_eq_some_iff.mp h
  have hdata := reaches_receiveData (s := (s.took (junk.map .byte ++ [.byte slipEnd]) rest).beginData)
    ⟨⟨hrun.holds, hrun.rst⟩, hrb, Nat.zero_add _, rfl⟩ rfl hr
  rw [received_beginData, endFrame_goto, took_withFrame, show r.fin = .good from hg, show r.bytes.length = _ from hlen] at hdata
  rw [hlen]
  exact (reaches_hunt hrun hp hj ha).trans hdata

/-- Settles O36: a good frame by `reaches_frameReceive_good`, every other end by `reaches_frameReceive`. -/
theorem machineReceivesAsFrameReceive : Obligations.MachineReceivesAsFrameReceive := by
  intro i s r hh hp hr hrb h
  cases hf : r.fin with
  | good =>
    obtain ⟨k, hk⟩ := reaches_frameReceive_good ⟨hh, hr⟩ hrb hp h hf
    exact ⟨k, 10, hk, fun _ => ⟨rfl, frameReceive_good_length h hf⟩⟩
  | transport e | badEscape | badTrailer =>
    obtain ⟨ri, k, hk⟩ := reaches_frameReceive ⟨hh, hr⟩ hrb hp rfl h
    rw [hf] at hk
    exact ⟨k, ri, hk, nofun⟩

end Sys2Proof.Machine
end

section
/-! PROOFS. The checksum (spec/41_checksum.md R200 to R204) and the record BUILD makes of a data command (R107, R110). -/

namespace Sys2Proof.Machine

variable {s : State} {i : Instr}

/-! ## The checksum as an exclusive or -/

/-- The accumulator started from any value: the checksum, with that value in place of the seed. -/
theorem foldl_chkStep (chk : Byte) (payload : Bytes) :
    payload.foldl chkStep chk = chk ^^^ chkSeed ^^^ checksum payload := by
  have hseed : chk ^^^ chkSeed ^^^ chkSeed = chk := by rw [BitVec.xor_assoc, BitVec.xor_self, BitVec.xor_zero]
  calc payload.foldl chkStep chk
    _ = payload.foldl (· ^^^ ·) (chk ^^^ chkSeed ^^^ chkSeed) := by rw [hseed]; rfl
    _ = chk ^^^ chkSeed ^^^ payload.foldl (· ^^^ ·) chkSeed := List.foldl_assoc

/-- The checksum of a concatenation: the seed, which both checksums contain, is taken out once (R204). -/
theorem checksum_append (a b : Bytes) : checksum (a ++ b) = checksum a ^^^ checksum b ^^^ chkSeed := by
  rw [checksum, List.foldl_append, foldl_chkStep, ← checksum, BitVec.xor_assoc, BitVec.xor_comm chkSeed, BitVec.xor_assoc]

theorem checksum_singleton (b : Byte) : checksum [b] = chkSeed ^^^ b := rfl

/-- Two equal bytes have the checksum of no byte at all. -/
theorem checksum_pair (b : Byte) : checksum [b, b] = chkSeed :=
  (BitVec.xor_assoc chkSeed b b).trans (by rw [BitVec.xor_self, BitVec.xor_zero])

/-- The order of two payload bytes does not matter to the accumulator. -/
theorem chkStep_right_comm (chk b c : Byte) : chkStep (chkStep chk b) c = chkStep (chkStep chk c) b := by
  simp only [chkStep, BitVec.xor_assoc, BitVec.xor_comm b]

theorem checksum_perm {a b : Bytes} (h : a.Perm b) : checksum a = checksum b :=
  h.foldl_eq' (fun b _ c _ chk => chkStep_right_comm chk b c) chkSeed

/-- Settles O25: by `checksum_perm`, and a concatenation is a permutation of the one in the other order. -/
theorem checksumIsOrderInsensitive : Obligations.ChecksumIsOrderInsensitive :=
  ⟨fun _ _ => checksum_perm, fun _ _ => checksum_perm List.perm_append_comm⟩

/-- Settles O26: by `checksum_append`; the pair `[b, b]` adds the seed, which the append law takes out again. -/
theorem checksumAlgebra : Obligations.ChecksumAlgebra := by
  refine ⟨checksum_append, fun a b => ?_, fun b => ⟨checksum_singleton b, ?_⟩, rfl⟩
  · rw [checksum_append, checksum_pair, BitVec.xor_assoc, BitVec.xor_self, BitVec.xor_zero]
  · rw [checksum_singleton]
    exact BitVec.xor_eq_zero_iff.trans eq_comm

/-! ## BUILD of a data command -/

/-- BUILD of a data command: SEQ advances, CHK is the checksum of the bytes the payload's reads find, and their entries in the list
of changes are used up (R200, R225, R61). -/
theorem builder_data_eq (hd : i.cmd.isData = true) : builder i s = { s with
    seq := s.seq + 1
    chk := checksum (observed i.payload s.payChg)
    payChg := s.payChg.drop i.payload.length
    body := (builder i s).body
    ph := .txLead } := by
  cases i with
  | flashData | memData => rfl
  | sync | flashBegin | flashEnd | memBegin | memEnd | writeReg | readReg | spiAttach => cases hd

/-- With the payload held, a data command writes the header with the payload's checksum and its fields, numbers the packet with
SEQ, which advances, and goes on to FrameSend (R103, R200, R220, R225). -/
theorem exec_build_data (hb : s.ph = .build) (hc : s.payChg = []) (hd : i.cmd.isData = true) : exec i s = .next { s with
    seq := s.seq + 1
    chk := checksum i.payload
    body := [0x00, i.cmd.id, BitVec.ofNat 8 i.cmd.psize, 0x00, checksum i.payload, 0x00, 0x00, 0x00] ++ i.fields s.seq
    ph := .txLead } := by
  have hread : observed i.payload s.payChg = i.payload := by rw [hc, observed_nil]
  have hleft : s.payChg.drop i.payload.length = s.payChg := by rw [hc, List.drop_nil]
  have hchk : headerChk i.cmd (builder i s).chk = checksum i.payload := by rw [builder_data_eq hd, hread, headerChk, if_pos hd]
  have hbody := builder_body_eq i s
  rw [hdr_eq, hchk] at hbody
  rw [exec_of_ph hb, builder_data_eq hd, hread, hleft, hbody]

/-- Settles O16: by `exec_build_data`, since the fold of the statement is the payload's checksum. -/
theorem dataCommandsNumberAndCheckThePacket : Obligations.DataCommandsNumberAndCheckThePacket := by
  intro s payload chk id i hb hc hchk hi
  obtain rfl : chk = checksum payload := hchk
  obtain ⟨rfl, rfl⟩ | ⟨rfl, rfl⟩ := hi
  · exact exec_build_data hb hc rfl
  · exact exec_build_data hb hc rfl

end Sys2Proof.Machine
end

section
/-! PROOFS. What BUILD leaves for every command with a held payload (spec/42_commands.md R220, R230). -/

namespace Sys2Proof.Machine

variable {s : State} {i : Instr}

/-- Settles O14: `exec_build_plain` for SYNC, which has no effect on SEQ and whose fields are the magic. -/
theorem syncBuildsTheMagicRecord : Obligations.SyncBuildsTheMagicRecord :=
  fun _ hb => exec_build_plain hb rfl

/-- BUILD of every command writes SEQ, BODY, CHK, the changes its payload reads use up, and PH. -/
theorem builder_eq (i : Instr) (s : State) : builder i s = { s with
    seq := (builder i s).seq
    body := (builder i s).body
    chk := (builder i s).chk
    payChg := (builder i s).payChg
    ph := .txLead } := by
  cases i <;> rfl

/-- Only a data command's BUILD takes a checksum. -/
theorem builder_chk_of_not_isData (hd : i.cmd.isData = false) : (builder i s).chk = s.chk := by
  cases i with
  | flashData | memData => cases hd
  | sync | flashBegin | flashEnd | memBegin | memEnd | writeReg | readReg | spiAttach => rfl

/-- Settles O21: the registers BUILD writes by `builder_eq`; what it writes in BODY and that the payload stays held by
`builder_held`, in SEQ by `builder_seq`. -/
theorem builderWritesTheRecord : Obligations.BuilderWritesTheRecord := by
  intro i s hb hc
  obtain ⟨hbody, hheld⟩ := builder_held i hc
  refine ⟨(builder i s).chk, ?_, builder_chk_of_not_isData, rfl⟩
  refine (exec_of_ph hb).trans (congrArg Host.Outcome.next ((builder_eq i s).trans ?_))
  rw [builder_seq, hbody, hheld, ← hc]
  rfl

end Sys2Proof.Machine
end

section
/-! PROOFS. The sequence numbers of a transfer (spec/42_commands.md R223 to R225, 70_reset_and_hazards.md R455). -/

namespace Sys2Proof.Machine

variable {i : Instr}

theorem not_isData_of_isBegin (h : i.cmd.isBegin = true) : i.cmd.isData = false := by
  cases i with
  | flashBegin | memBegin => rfl
  | sync | flashData | flashEnd | memData | memEnd | writeReg | readReg | spiAttach => cases h

/-- Where no command restarts SEQ, the data commands carry the numbers from SEQ on, modulo 2^32. -/
theorem carriedSeqs_of_no_begin {is : List Instr} (h : ∀ i ∈ is, i.cmd.isBegin = false) (n : Nat) :
    carriedSeqs is (BitVec.ofNat 32 n) =
      (List.range' n (is.filter fun i => i.cmd.isData).length).map (BitVec.ofNat 32) := by
  induction is generalizing n with
  | nil => rfl
  | cons i is ih =>
    obtain ⟨hi, his⟩ := List.forall_mem_cons.mp h
    cases hd : i.cmd.isData with
    | true =>
      have hseq : seqAfter i (BitVec.ofNat 32 n) = BitVec.ofNat 32 (n + 1) := by simp [seqAfter, hi, hd, BitVec.ofNat_add]
      simp [carriedSeqs, Instr.carriedSeq, hd, hseq, ih his, List.range'_succ]
    | false =>
      have hseq : seqAfter i (BitVec.ofNat 32 n) = BitVec.ofNat 32 n := by simp [seqAfter, hi, hd]
      simp [carriedSeqs, Instr.carriedSeq, hd, hseq, ih his]

/-- Settles O24: the begin command carries no number and leaves 0, from where `carriedSeqs_of_no_begin` counts. -/
theorem dataPacketsAreNumberedFromTheBegin : Obligations.DataPacketsAreNumberedFromTheBegin := by
  intro start later seq hstart hlater
  have hnone : start.carriedSeq seq = none := by simp [Instr.carriedSeq, not_isData_of_isBegin hstart]
  have hzero : seqAfter start seq = BitVec.ofNat 32 0 := if_pos hstart
  rw [carriedSeqs, hnone, hzero, carriedSeqs_of_no_begin hlater, List.range_eq_range']
  rfl

end Sys2Proof.Machine
end

section
/-! PROOFS. Which results carry a value (spec/42_commands.md R240). -/

namespace Sys2Proof.Machine

variable {s t : State} {i : Instr} {r : Result}

/-- A result that is no OK and carries no value. -/
def Result.Fails (r : Result) : Prop := r.kind ≠ .ok ∧ r.value = none

theorem transportResult_fails (e : TransportErr) : (transportResult e).Fails := ⟨nofun, rfl⟩

theorem invalidResult_fails (cause : ResCause) : (invalidResult cause).Fails := ⟨nofun, rfl⟩

/-- What a busy step may do to RES: leave it, present a failure, or present the OK of STATUS (R303, R400). -/
def State.ResFollows (s t : State) : Prop :=
  t.res = s.res ∨ ∃ r, t.res = some r ∧ (r.Fails ∨ r = okResult s.want s.rb)

theorem State.ResFollows.fails (h : r.Fails) (u : State) : s.ResFollows (u.complete r) := .inr ⟨r, rfl, .inl h⟩

theorem State.ResFollows.transport (u : State) (e : TransportErr) : s.ResFollows (u.complete (transportResult e)) :=
  .fails (transportResult_fails e) u

theorem State.ResFollows.invalid (u : State) (cause : ResCause) : s.ResFollows (u.complete (invalidResult cause)) :=
  .fails (invalidResult_fails cause) u

theorem txBodyDone_res (s : State) : (txBodyDone s).res = s.res := by
  obtain ⟨ph, h⟩ := txBodyDone_eq s
  rw [h, State.goto_res]

/-- Outside IDLE a step of a command presents only failures and the OK of STATUS. -/
theorem exec_busy_res (hi : s.ph ≠ .idle) (h : exec i s = .next t) : s.ResFollows t := by
  cases hp : s.ph with
  | idle => exact absurd hp hi
  | build =>
    simp only [exec_of_ph hp, Host.Outcome.next.injEq] at h
    subst h
    exact .inl (by rw [builder_eq])
  | txLead =>
    simp only [exec_of_ph hp, txLeadStep_eq_next] at h
    obtain ⟨_, rfl⟩ | ⟨e, _, rfl⟩ := h
    · exact .inl rfl
    · exact .transport _ e
  | txBody =>
    simp only [exec_of_ph hp, txBodyStep_eq_next] at h
    obtain ⟨_, _, ⟨_, rfl⟩ | ⟨e, _, rfl⟩⟩ | ⟨_, _, ⟨_, rfl⟩ | ⟨e, _, rfl⟩⟩ := h
    · exact .inl (txBodyDone_res _)
    · exact .transport _ e
    · exact .inl (txBodyDone_res _)
    · exact .transport _ e
  | txTrail =>
    simp only [exec_of_ph hp, txTrailStep_eq_next] at h
    obtain ⟨_, rfl⟩ | ⟨e, _, rfl⟩ := h
    · exact .inl rfl
    · exact .transport _ e
  | rxHunt =>
    simp only [exec_of_ph hp, rxHuntStep_eq_next] at h
    obtain ⟨_, _, rfl⟩ | ⟨e, _, rfl⟩ := h
    · split <;> exact .inl rfl
    · exact .transport _ e
  | rxData =>
    simp only [exec_of_ph hp, rxDataStep_eq_next] at h
    obtain ⟨_, _, rfl⟩ | ⟨e, _, rfl⟩ := h
    · split <;> exact .inl rfl
    · exact .transport _ e
  | rxEsc =>
    simp only [exec_of_ph hp, rxEscStep_eq_next] at h
    obtain ⟨_, _, _, _, rfl⟩ | ⟨_, _, _, rfl⟩ | ⟨e, _, rfl⟩ := h
    · exact .inl rfl
    · exact .invalid _ _
    · exact .transport _ e
  | rxTrail =>
    simp only [exec_of_ph hp, rxTrailStep_eq_next] at h
    obtain ⟨_, _, rfl⟩ | ⟨e, _, rfl⟩ := h
    · split
      · exact .inl rfl
      · exact .invalid _ _
    · exact .transport _ e
  | matching =>
    simp only [exec_of_ph hp, matchStep_eq_next] at h
    subst h
    split
    · exact .inl rfl
    · split
      · exact .invalid _ _
      · exact .inl rfl
  | status =>
    simp only [exec_of_ph hp, statusStep_eq_next] at h
    subst h
    split
    · exact .invalid _ _
    · exact .inr ⟨_, rfl, .inr rfl⟩

/-- Outside IDLE, WANT is set where CUR_CMD is READ_REG's id (R34). -/
theorem State.Inv.want_iff (hs : s.Inv) (hi : s.ph ≠ .idle) : s.want = true ↔ s.curCmd = 0x0A := by
  obtain ⟨c, ⟨hcmd, hwant⟩, _⟩ := hs.latch hi
  rw [hcmd, hwant, decide_eq_true_eq]
  exact (Cmd.id_inj (d := .readReg)).symm

/-- Settles O55: RES presents nothing outside IDLE, so by `exec_busy_res` the result is a failure, which carries no value, or
STATUS's OK, which carries one where WANT is set. -/
theorem onlyReadRegPresentsAValue : Obligations.OnlyReadRegPresentsAValue := by
  intro s t r hs hr h hi hres
  obtain ⟨hidle, _⟩ | ⟨_, i, _, hx⟩ := step_cases hr h
  · exact absurd hidle hi
  obtain hsame | ⟨r', hr', hcase⟩ := exec_busy_res (s := s.takeRst) hi hx
  · simp [hsame, hs.res_absent hi] at hres
  obtain rfl := Option.some.inj (hr'.symm.trans hres)
  obtain ⟨hkind, hvalue⟩ | rfl := hcase
  · simp [hkind, hvalue]
  · rw [← hs.want_iff hi]
    cases hw : s.want <;> simp [okResult, hw, respValue]

end Sys2Proof.Machine
end

section
/-! PROOFS. Whole commands (spec/42_commands.md R221, R240, 43_response_matcher.md R303, R304): Execute, and its run where the
transport takes the frame and a matching response arrives. -/

namespace Sys2Proof.Machine

variable {i : Instr} {p : Params} {x : Bytes}

/-- Settles O45: by `reaches_executed`. -/
theorem machineExecutesEachCommand : Obligations.MachineExecutesEachCommand := by
  intro i s later x hs hwf hi hr hc hq hx
  obtain ⟨t, ⟨k, hk⟩, hd⟩ := reaches_executed hs hwf hi hr hc hq hx
  exact ⟨k, t, hk, hd.ph, hd.res, hd.events, hd.seq, hd.txAns, hd.rxAns, hd.reqs, hd.rst, hd.held, hd.draws⟩

/-- Where every byte is accepted, the whole wire is sent. -/
theorem sendWire_accepted (wire : Bytes) (later : List TxAnswer) :
    sendWire wire (List.replicate wire.length .ok ++ later) = some ⟨wire.map (fun b => .tx b .ok), none, later⟩ := by
  induction wire with
  | nil => rfl
  | cons w ws ih => simp [List.replicate_succ, sendWire, ih]

/-- A matching frame first on the stream ends the wait, as its status says (R301). -/
theorem await_matching {cmd : Byte} (hp : p.escEscDecode = slipEsc) (hlen : x.length = p.respLen)
    (hm : frameMatches x cmd = true) (want : Bool) (fuel : Nat) (ndisc : Word) (later : List RxAnswer) :
    await p cmd want (fuel + 1) ndisc ((frame x).map .byte ++ later) =
      some (statusOf want ((frame x).map fun b => .rx (.byte b)) x later) := by
  obtain ⟨hframe, _⟩ := frameRoundTrip p
  simp [await, ← hlen, hframe x later hp, hm, Function.comp_def]

/-- Execute where the frame is accepted and a matching response follows (R221). -/
theorem executed_answered {seq : Word} {wire : Bytes} (hwire : wire = frame (encode i seq))
    (hlen : x.length = defaultParams.respLen) (hm : frameMatches x i.cmd.id = true) (txLater : List TxAnswer)
    (rxLater : List RxAnswer) :
    executed defaultParams i seq (List.replicate wire.length .ok ++ txLater) ((frame x).map .byte ++ rxLater) =
      let a := statusOf (i.cmd = .readReg) ((frame x).map fun b => .rx (.byte b)) x rxLater
      some ⟨wire.map (fun b => .tx b .ok) ++ a.events, a.result, seqAfter i seq, txLater, a.rest⟩ := by
  simp only [executed, ← hwire, sendWire_accepted, Option.bind_some, await_matching rfl hlen hm, Option.map_some]

/-- What a response's status byte makes of the command, written out (R303, R304, R240). -/
theorem statusOf_response (want : Bool) (used : List PortEvent) (d c z0 z1 v0 v1 v2 v3 st er : Byte) (rest : List RxAnswer) :
    statusOf want used [d, c, z0, z1, v0, v1, v2, v3, st, er] rest =
      .finish (used ++ if st = 0x00 then [] else [.diag (category er)])
        (if st = 0x00 then ⟨.ok, none, if want then some (v3 ++ v2 ++ v1 ++ v0) else none, .none⟩
          else ⟨.invalidResponse, none, none, .deviceFailure⟩) rest := by
  have hfails : statusFails [d, c, z0, z1, v0, v1, v2, v3, st, er] = true ↔ ¬ st = 0x00 := decide_eq_true_iff
  rw [statusOf, if_congr hfails rfl rfl]
  by_cases hst : st = 0x00
  · simp only [hst, not_true_eq_false, if_false, if_true, List.append_nil]
    rfl
  · simp only [hst, not_false_eq_true, if_true, if_false]
    rfl

/-- Settles O47: the run by `reaches_executed`; what Execute gives there by `executed_answered` and `statusOf_response`. -/
theorem matchingFrameCompletesTheCommand : Obligations.MatchingFrameCompletesTheCommand := by
  intro i s later z0 z1 v0 v1 v2 v3 st er wire resp txLater rxLater r hs hwf hi hr hc hq hwire hresp htx hrx hres
  have hm : frameMatches [0x01, i.cmd.id, z0, z1, v0, v1, v2, v3, st, er] i.cmd.id = true := by simp [frameMatches, dirResp]
  have hx := executed_answered hwire rfl hm txLater rxLater
  rw [← hresp, ← htx, ← hrx, statusOf_response] at hx
  obtain ⟨t, ⟨k, hk⟩, hd⟩ := reaches_executed hs hwf hi hr hc hq hx
  simp only [decide_eq_true_eq, ← hres] at hd
  refine ⟨k, t, hk, hd.ph, hd.res, hd.seq, ?_, hd.txAns, hd.rxAns, hd.reqs⟩
  simpa only [Awaited.finish, List.append_assoc] using hd.events

end Sys2Proof.Machine
end

section
/-! PROOFS. The response matcher (spec/43_response_matcher.md R300 to R304): MATCH, STATUS, the frames it discards, and Await. -/

namespace Sys2Proof.Machine

variable {p : Params} {cmd : Byte} {x : Bytes} {stale : List Bytes}

/-- Settles O44: by `reaches_await`. -/
theorem machineAwaitsAsAwait : Obligations.MachineAwaitsAsAwait := by
  intro i s fuel a hh hp hr hrb h
  obtain ⟨rb, ri, ndisc, k, hk⟩ := reaches_await ⟨hh, hr⟩ hrb hp h
  exact ⟨k, rb, ri, ndisc, hk⟩

/-! ## Discarded frames -/

/-- What is awaited after some port events. -/
def Awaited.after (used : List PortEvent) (a : Awaited) : Awaited := { a with events := used ++ a.events }

theorem Awaited.after_nil : Awaited.after [] = id := rfl

theorem Awaited.after_after (used used' : List PortEvent) (a : Awaited) :
    (a.after used').after used = a.after (used ++ used') := by simp [Awaited.after]

/-- A frame that does not match is discarded, or ends the wait where the bound is exceeded (R300, R302). -/
theorem await_stale (hp : p.escEscDecode = slipEsc) (hlen : x.length = p.respLen) (hm : frameMatches x cmd = false)
    (want : Bool) (fuel : Nat) (ndisc : Word) (later : List RxAnswer) :
    await p cmd want (fuel + 1) ndisc ((frame x).map .byte ++ later) =
      if discardExceeds p.maxDiscard ndisc
      then some (.finish ((frame x).map fun b => .rx (.byte b)) (invalidResult .discardLimit) later)
      else (await p cmd want fuel (ndisc + 1) later).map (.after ((frame x).map fun b => .rx (.byte b))) := by
  obtain ⟨hframe, _⟩ := frameRoundTrip p
  simp only [await, ← hlen, hframe x later hp, hm, Option.bind_some, List.map_map, Bool.false_eq_true, if_false]
  rfl

/-- With `k` frames discarded before, the next one exceeds a bound of at most `k` (R302). -/
theorem discardExceeds_some_ofNat (n : Word) {k : Nat} (hk : k < 2 ^ 32) :
    discardExceeds (some n) (BitVec.ofNat 32 k) = true ↔ n.toNat ≤ k := by
  simp only [discardExceeds, BitVec.toNat_ofNat, Nat.mod_eq_of_lt hk, decide_eq_true_eq, Nat.lt_succ_iff]

/-- Frames that do not match are read past as long as none exceeds the bound, each counted in NDISC. -/
theorem await_all_stale (hp : p.escEscDecode = slipEsc)
    (hstale : ∀ x ∈ stale, x.length = p.respLen ∧ frameMatches x cmd = false) (want : Bool) (fuel k : Nat) (later : List RxAnswer)
    (hbound : ∀ j < stale.length, ¬ discardExceeds p.maxDiscard (BitVec.ofNat 32 (k + j)) = true) :
    await p cmd want (stale.length + fuel) (BitVec.ofNat 32 k) ((stale.flatMap frame).map .byte ++ later) =
      (await p cmd want fuel (BitVec.ofNat 32 (k + stale.length)) later).map
        (.after ((stale.flatMap frame).map fun b => .rx (.byte b))) := by
  induction stale generalizing k with
  | nil => simp [Awaited.after_nil]
  | cons x stale ih =>
    obtain ⟨⟨hlen, hm⟩, hstale⟩ := List.forall_mem_cons.mp hstale
    have hfirst : ¬ discardExceeds p.maxDiscard (BitVec.ofNat 32 k) = true := hbound 0 (Nat.zero_lt_succ _)
    have hrest := ih hstale (k + 1) fun j hj => by
      rw [Nat.succ_add_eq_add_succ]
      exact hbound (j + 1) (Nat.succ_lt_succ hj)
    have hcount : BitVec.ofNat 32 k + (1 : Word) = BitVec.ofNat 32 (k + 1) := (BitVec.ofNat_add k 1).symm
    simp only [List.flatMap_cons, List.map_append, List.append_assoc, List.length_cons, Nat.succ_add]
    rw [await_stale hp hlen hm, if_neg hfirst, hcount, hrest, Nat.succ_add_eq_add_succ, Option.map_map]
    exact congrArg (Option.map · _) (funext (Awaited.after_after _ _))

/-- Settles O41: unbounded by `await_all_stale`; bounded the first N frames by it, and the last by `await_stale`. -/
theorem boundedDiscardsEndTheCommand : Obligations.BoundedDiscardsEndTheCommand := by
  intro p cmd want stale fuel after hp hstale
  refine ⟨fun hb => ?_, fun n hb hcount => ?_⟩
  · have hall := await_all_stale hp hstale want fuel 0 after (by simp [hb, discardExceeds])
    rwa [Nat.zero_add] at hall
  · obtain rfl | ⟨first, x, rfl⟩ := stale.eq_nil_or_concat'
    · cases hcount
    have hlen : first.length = n.toNat := by simpa using hcount
    obtain ⟨hfirst, hlast⟩ := List.forall_mem_append.mp hstale
    obtain ⟨hx, hm⟩ := hlast x (List.mem_singleton_self x)
    have hall := await_all_stale hp hfirst want (fuel + 1) 0 ((frame x).map .byte ++ after) fun j hj => by
      rw [Nat.zero_add, hb, discardExceeds_some_ofNat n (by omega)]
      omega
    have hend : discardExceeds p.maxDiscard (BitVec.ofNat 32 (0 + first.length)) = true := by
      rw [Nat.zero_add, hb, hlen, discardExceeds_some_ofNat n n.isLt]
    rw [await_stale hp hx hm, if_pos hend] at hall
    simpa [Awaited.after, Awaited.finish, invalidResult, Nat.add_assoc, Nat.add_comm 1] using hall

/-! ## MATCH and STATUS -/

/-- Settles O40: by `matchStep_eq_next`, and the default bound is never exceeded. -/
theorem matchTestsDirectionAndId : Obligations.MatchTestsDirectionAndId := by
  intro i s d c hp hd hc
  have hm : frameMatches s.rb s.curCmd = true ↔ d = 0x01 ∧ c = s.curCmd := by
    simp [frameMatches, List.getD_eq_getElem?_getD, hd, hc, dirResp]
  have hbound : ¬ discardExceeds defaultParams.maxDiscard s.ndisc = true := Bool.false_ne_true
  refine (exec_of_ph hp).trans (matchStep_eq_next.mpr ?_)
  rw [if_congr hm rfl rfl, if_neg hbound]
  rfl

/-- Settles O42: by `statusStep_eq_next`; the status byte is RB[8], the value RB[4] to RB[7], the error code RB[9]. -/
theorem statusByteDecidesTheResult : Obligations.StatusByteDecidesTheResult := by
  intro i s d c z0 z1 v0 v1 v2 v3 st er hp hrb
  have hfails : statusFails s.rb = true ↔ ¬ st = 0x00 := by rw [hrb]; exact decide_eq_true_iff
  refine (exec_of_ph hp).trans (statusStep_eq_next.mpr ?_)
  rw [if_congr hfails rfl rfl, ite_not]
  by_cases hst : st = 0x00
  · have hvalue : respValue s.rb = v3 ++ v2 ++ v1 ++ v0 := by rw [hrb]; rfl
    rw [if_pos hst, if_pos hst, okResult, hvalue]
    rfl
  · have hcode : respCategory s.rb = category er := by rw [hrb]; rfl
    rw [if_neg hst, if_neg hst, hcode]
    simp [State.complete, State.emit, invalidResult]

end Sys2Proof.Machine
end

section
/-! PROOFS. What a step adds to the observation and what a completion leaves (spec/60_exceptions.md R406, R407, 20_memory.md R71,
10_state.md R40). A busy step makes the port events its phase may make, and then goes on without one or completes the command. -/

namespace Sys2Proof.Machine

variable {s t u : State} {i : Instr} {ph : Phase} {es : List PortEvent}

/-! ## The events of a phase -/

/-- The events a step makes in a phase before it goes on or completes: none, one transfer of the phase's kind, or STATUS's DIAG. -/
inductive Phase.MayAdd (ph : Phase) : List PortEvent → Prop
  | nothing : ph.MayAdd []
  | tx (b : Byte) (a : TxAnswer) (h : ph.sends = true) : ph.MayAdd [.tx b a]
  | rx (a : RxAnswer) (h : ph.receives = true) : ph.MayAdd [.rx a]
  | diag (c : DiagCat) : ph.MayAdd [.diag c]

theorem Phase.MayAdd.transfers_le (h : ph.MayAdd es) : (es.filter PortEvent.isTransfer).length ≤ 1 := by
  cases h <;> simp [List.filter, PortEvent.isTransfer]

theorem Phase.MayAdd.no_res (h : ph.MayAdd es) : es.filter PortEvent.isRes = [] := by
  cases h <;> rfl

theorem Phase.MayAdd.sends {b : Byte} {a : TxAnswer} (h : ph.MayAdd es) (hm : .tx b a ∈ es) : ph.sends = true := by
  cases h with
  | tx _ _ hs => exact hs
  | nothing | rx | diag => simp at hm

theorem Phase.MayAdd.receives {a : RxAnswer} (h : ph.MayAdd es) (hm : .rx a ∈ es) : ph.receives = true := by
  cases h with
  | rx _ hr => exact hr
  | nothing | tx | diag => simp at hm

/-! ## A busy step -/

/-- `u` is `s` with the events of the step's phase made, RB and RI as they were. -/
structure State.Adds (s u : State) (es : List PortEvent) : Prop where
  allowed : s.ph.MayAdd es
  events : u.events = s.events ++ es
  rb : u.rb = s.rb
  ri : u.ri = s.ri

theorem State.Adds.silent (he : u.events = s.events) (hrb : u.rb = s.rb) (hri : u.ri = s.ri) : s.Adds u [] :=
  ⟨.nothing, by rw [he, List.append_nil], hrb, hri⟩

/-- A TxWrite, after the registers of the transmitter have moved on. -/
theorem State.Adds.sent (hp : s.ph.sends = true) (b : Byte) (he : u.events = s.events) (hrb : u.rb = s.rb) (hri : u.ri = s.ri) :
    s.Adds (u.afterTx b) [.tx b u.txAnswer] :=
  ⟨.tx _ _ hp, by rw [State.afterTx_events, he], hrb, hri⟩

theorem State.Adds.got (hp : s.ph.receives = true) : s.Adds s.afterRx [.rx s.rxAnswer] := ⟨.rx _ hp, rfl, rfl, rfl⟩

/-- How a step ends once its events are made: on to a busy phase with no further event, or with a completion (R407). -/
def State.Settles (u t : State) : Prop := (t.events = u.events ∧ t.ph ≠ .idle) ∨ ∃ r, t = u.complete r

theorem State.Settles.on (he : t.events = u.events) (hp : t.ph ≠ .idle) : u.Settles t := .inl ⟨he, hp⟩

theorem State.Settles.done (u : State) (r : Result) : u.Settles (u.complete r) := .inr ⟨r, rfl⟩

theorem txBodyDone_settles (hp : u.ph ≠ .idle) : u.Settles (txBodyDone u) := by
  obtain ⟨ph, h⟩ := txBodyDone_eq u
  refine .on (by rw [h, State.goto_events]) ?_
  obtain ht | ht := txBodyDone_ph u
  · simp [ht]
  · rwa [ht]

theorem store_settles (u : State) (n : Nat) (v : Byte) : u.Settles (u.store n v) := by
  refine .on rfl ?_
  obtain ht | ht := store_ph u n v <;> rw [ht] <;> decide

/-- Every busy step makes events its phase may make, with RB and RI as they were, and then goes on silently or completes. -/
theorem exec_busy_adds (hi : s.ph ≠ .idle) (h : exec i s = .next t) : ∃ u es, s.Adds u es ∧ u.Settles t := by
  cases hp : s.ph with
  | idle => exact absurd hp hi
  | build =>
    simp only [exec_of_ph hp, Host.Outcome.next.injEq] at h
    subst h
    exact ⟨s, _, .silent rfl rfl rfl, .on (by rw [builder_eq]) (by simp [(builder_frame i s).1])⟩
  | txLead =>
    have hadds := State.Adds.sent (s := s) (u := s) (by rw [hp]; rfl) slipEnd rfl rfl rfl
    simp only [exec_of_ph hp, txLeadStep_eq_next] at h
    obtain ⟨_, rfl⟩ | ⟨_, _, rfl⟩ := h
    · exact ⟨_, _, hadds, .on rfl (by simp)⟩
    · exact ⟨_, _, hadds, .done _ _⟩
  | txBody =>
    have hsends : s.ph.sends = true := by rw [hp]; rfl
    simp only [exec_of_ph hp, txBodyStep_eq_next] at h
    obtain ⟨w, _, ⟨_, rfl⟩ | ⟨_, _, rfl⟩⟩ | ⟨_, _, ⟨_, rfl⟩ | ⟨_, _, rfl⟩⟩ := h
    · exact ⟨_, _, .sent (u := s.dropEscp) hsends w rfl rfl rfl, txBodyDone_settles hi⟩
    · exact ⟨_, _, .sent (u := s.dropEscp) hsends w rfl rfl rfl, .done _ _⟩
    · exact ⟨_, _, .sent (u := s.pastByte) hsends _ rfl rfl rfl, txBodyDone_settles hi⟩
    · exact ⟨_, _, .sent (u := s.pastByte) hsends _ rfl rfl rfl, .done _ _⟩
  | txTrail =>
    have hadds := State.Adds.sent (s := s) (u := s) (by rw [hp]; rfl) slipEnd rfl rfl rfl
    simp only [exec_of_ph hp, txTrailStep_eq_next] at h
    obtain ⟨_, rfl⟩ | ⟨_, _, rfl⟩ := h
    · exact ⟨_, _, hadds, .on rfl (by simp)⟩
    · exact ⟨_, _, hadds, .done _ _⟩
  | rxHunt =>
    refine ⟨_, _, .got (by rw [hp]; rfl), ?_⟩
    simp only [exec_of_ph hp, rxHuntStep_eq_next] at h
    obtain ⟨_, _, rfl⟩ | ⟨_, _, rfl⟩ := h
    · split
      · exact .on rfl (by simp)
      · exact .on rfl hi
    · exact .done _ _
  | rxData =>
    refine ⟨_, _, .got (by rw [hp]; rfl), ?_⟩
    simp only [exec_of_ph hp, rxDataStep_eq_next] at h
    obtain ⟨_, _, rfl⟩ | ⟨_, _, rfl⟩ := h
    · split
      · exact .on rfl (by simp)
      · exact store_settles _ _ _
    · exact .done _ _
  | rxEsc =>
    refine ⟨_, _, .got (by rw [hp]; rfl), ?_⟩
    simp only [exec_of_ph hp, rxEscStep_eq_next] at h
    obtain ⟨_, _, _, _, rfl⟩ | ⟨_, _, _, rfl⟩ | ⟨_, _, rfl⟩ := h
    · exact store_settles _ _ _
    · exact .done _ _
    · exact .done _ _
  | rxTrail =>
    refine ⟨_, _, .got (by rw [hp]; rfl), ?_⟩
    simp only [exec_of_ph hp, rxTrailStep_eq_next] at h
    obtain ⟨_, _, rfl⟩ | ⟨_, _, rfl⟩ := h
    · split
      · exact .on rfl (by simp)
      · exact .done _ _
    · exact .done _ _
  | matching =>
    simp only [exec_of_ph hp, matchStep_eq_next] at h
    subst h
    split
    · exact ⟨s, _, .silent rfl rfl rfl, .on rfl (by simp)⟩
    · refine ⟨s.countDiscard, _, .silent rfl rfl rfl, ?_⟩
      split
      · exact .done _ _
      · exact .on rfl (by simp)
  | status =>
    simp only [exec_of_ph hp, statusStep_eq_next] at h
    subst h
    split
    · exact ⟨s.emit _, _, ⟨.diag _, rfl, rfl, rfl⟩, .done _ _⟩
    · exact ⟨s, _, .silent rfl rfl rfl, .done _ _⟩

/-- IDLE makes no event, whether it waits or accepts. -/
theorem idleStep_events (h : idleStep s = .next t) : t.events = s.events := by
  obtain ⟨_, rfl⟩ | ⟨_, _, _, _, _, _, rfl⟩ := idleStep_cases h <;> rfl

/-- Settles O53: IDLE adds nothing; a busy step adds what its phase may (`exec_busy_adds`), and a RES where it completes. -/
theorem eachStepMakesAtMostOneTransfer : Obligations.EachStepMakesAtMostOneTransfer := by
  intro s t hr h
  obtain ⟨hi, hx⟩ | ⟨hi, i, _, hx⟩ := step_cases hr h
  · exact ⟨[], by simpa using idleStep_events hx, by simp [hi]⟩
  obtain ⟨u, es, ⟨hallowed, hevents, _, _⟩, ⟨ht, hbusy⟩ | ⟨r, rfl⟩⟩ := exec_busy_adds (s := s.takeRst) hi hx
  · exact ⟨es, ht.trans hevents, hallowed.transfers_le, fun _ _ => hallowed.sends, fun _ => hallowed.receives,
      by simp [hallowed.no_res, hbusy]⟩
  · refine ⟨es ++ [.res r], by simp [hevents], ?_, fun b a hm => ?_, fun a hm => ?_, ?_⟩
    · simpa [PortEvent.isTransfer] using hallowed.transfers_le
    · exact hallowed.sends (b := b) (a := a) (by simpa using hm)
    · exact hallowed.receives (a := a) (by simpa using hm)
    · simp [hallowed.no_res, hi, List.filter, PortEvent.isRes]

/-- Settles O54: a busy step that ends in IDLE is a completion (`exec_busy_adds`), and it is not BUILD's, so `exec_late_frame` says
what else is kept. -/
theorem completionSavesNothingElse : Obligations.CompletionSavesNothingElse := by
  intro s t hr h hi ht
  obtain ⟨hidle, _⟩ | ⟨_, i, _, hx⟩ := step_cases hr h
  · exact absurd hidle hi
  have hb : s.takeRst.ph ≠ .build := fun hb => by
    have hnext := exec_busy_ph (s := s.takeRst) hi hx
    rw [hb, ht] at hnext
    exact absurd hnext (by decide)
  obtain ⟨hlatch, hwant, hlen, hseq, hbody, hchk, hreqs, _⟩ := exec_late_frame (s := s.takeRst) hi hb hx
  obtain ⟨hcmd, harg0, harg1, harg2, harg3, hpay⟩ := Request.mk.inj hlatch
  obtain ⟨u, es, ⟨_, hevents, hrb, hri⟩, ⟨_, hbusy⟩ | ⟨r, rfl⟩⟩ := exec_busy_adds (s := s.takeRst) hi hx
  · exact absurd ht hbusy
  · exact ⟨r, es, rfl, congrArg (· ++ [PortEvent.res r]) hevents, hseq, hcmd, hwant, harg0, harg1, harg2, harg3, hpay, hlen, hbody,
      hchk, hrb, hri, hreqs⟩

end Sys2Proof.Machine
end

section
/-! PROOFS. Progress (spec/60_exceptions.md R403, R405): in a state with the invariant the step of every phase goes on. -/

namespace Sys2Proof.Machine

variable {s : State}

theorem tryTx_goes_on {b : Byte} {k : State → Out} (hk : ∀ u, ∃ t, k u = .next t) : ∃ t, tryTx b s k = .next t := by
  unfold tryTx
  cases s.txAnswer with
  | ok => exact hk _
  | err e => exact ⟨_, rfl⟩

theorem tryRx_goes_on {k : Byte → State → Out} (hk : ∀ b u, ∃ t, k b u = .next t) : ∃ t, tryRx s k = .next t := by
  unfold tryRx
  cases s.rxAnswer with
  | byte b => exact hk b _
  | err e => exact ⟨_, rfl⟩

theorem ite_goes_on {c : Prop} [Decidable c] {a b : Out} (ha : ∃ t, a = .next t) (hb : ∃ t, b = .next t) :
    ∃ t, (if c then a else b) = .next t := by
  split
  · exact ha
  · exact hb

/-- TX_BODY goes on where it has a byte to send. -/
theorem txBodyStep_goes_on (h : s.escp = none → s.ti < s.sendTotal) : ∃ t, txBodyStep s = .next t := by
  unfold txBodyStep
  cases he : s.escp with
  | some w => exact tryTx_goes_on fun _ => ⟨_, rfl⟩
  | none =>
    rw [if_pos (h he)]
    exact tryTx_goes_on fun _ => ⟨_, rfl⟩

theorem rxEscStep_goes_on (p : Params) (s : State) : ∃ t, rxEscStep p s = .next t := by
  refine tryRx_goes_on fun c u => ?_
  cases unescape p c <;> exact ⟨_, rfl⟩

/-- The step of a command goes on in every phase; of the invariant only TX_BODY needs its part. -/
theorem exec_goes_on (i : Instr) (hs : s.Inv) : ∃ t, exec i s = .next t := by
  cases hp : s.ph with
  | idle | build => exact ⟨_, exec_of_ph hp⟩
  | txLead | txTrail => exact (exec_of_ph hp).symm ▸ tryTx_goes_on fun _ => ⟨_, rfl⟩
  | txBody => exact (exec_of_ph hp).symm ▸ txBodyStep_goes_on (hs.send_index hp).2
  | rxHunt | rxData | rxTrail => exact (exec_of_ph hp).symm ▸ tryRx_goes_on fun _ _ => ite_goes_on ⟨_, rfl⟩ ⟨_, rfl⟩
  | rxEsc => exact (exec_of_ph hp).symm ▸ rxEscStep_goes_on _ s
  | matching => exact (exec_of_ph hp).symm ▸ ite_goes_on ⟨_, rfl⟩ (ite_goes_on ⟨_, rfl⟩ ⟨_, rfl⟩)
  | status => exact (exec_of_ph hp).symm ▸ ite_goes_on ⟨_, rfl⟩ ⟨_, rfl⟩

/-- Outside IDLE the latch holds one of the ten commands. -/
theorem State.Inv.holds (hs : s.Inv) (hi : s.ph ≠ .idle) : ∃ i, s.Holds i := by
  obtain ⟨c, ⟨hcmd, _⟩, _⟩ := hs.latch hi
  exact ⟨_, decodeRequest_eq_ok.mpr ⟨c, hcmd, rfl⟩⟩

/-- Settles O50: a pulse resets; a busy step goes on by `exec_goes_on`; IDLE waits, accepts one of the ten commands, or refuses. -/
theorem noFailureIsAStuckCondition : Obligations.NoFailureIsAStuckCondition := by
  intro s hs
  cases hr : s.rstNow with
  | true => exact .inl ⟨_, if_pos hr⟩
  | false =>
    by_cases hi : s.ph = .idle
    · cases hq : s.reqs with
      | nil => exact .inl ⟨s.takeRst, by simp [step_of_idle hr hi, idleStep, hq]⟩
      | cons r rest =>
        cases hc : Cmd.ofId? r.cmd with
        | some c => exact .inl ⟨_, step_of_request hr hi hq (Cmd.ofId?_eq_some hc)⟩
        | none =>
          refine .inr ⟨hi, r, rest, rfl, Cmd.ofId?_eq_none hc, ?_⟩
          simp [step_of_idle hr hi, idleStep, hq, decodeRequest, hc]
    · obtain ⟨i, hh⟩ := hs.holds hi
      rw [step_of_busy hr hi hh]
      exact .inl (exec_goes_on i hs.takeRst)

end Sys2Proof.Machine
end

section
/-! PROOFS. The first failure of a frame (spec/60_exceptions.md R401, R406): of its transmit, at any wire byte, and of its receive,
inside an escape pair. -/

namespace Sys2Proof.Machine

variable {s : State} {i : Instr} {e : TransportErr} {w : Byte} {p : Params}

/-! ## A failed transmit -/

theorem State.Runs.step_eq (h : s.Runs i) (hi : s.ph ≠ .idle) : step s = exec i s := by
  rw [step_of_busy (by simp [State.rstNow, h.rst]) hi h.holds, takeRst_of_nil h.rst]

/-- A machine whose transfer of owed byte `k` is the first to fail ends the command there, at step `k + 1`. -/
theorem run_failed_send {k : Nat} {wire : Bytes} {answers : List TxAnswer} (hrun : s.Runs i) (hr : s.SendReady)
    (ho : s.sendPos.Owes s.record wire) (hw : wire[k]? = some w) (ha : s.txAns = List.replicate k .ok ++ .err e :: answers) :
    ∃ pos, run (k + 1) s = .next ((s.sendAt pos answers
      ((wire.take k).map (fun b => .tx b .ok) ++ [.tx w (.err e)])).complete (transportResult e)) := by
  induction k generalizing s wire with
  | zero =>
    obtain ⟨ws, rfl⟩ : ∃ ws, wire = w :: ws := by cases wire <;> simp_all
    obtain ⟨pos, pos', f, hx, _, _⟩ := exec_owes hr ho i
    rw [ha, List.replicate_zero, List.nil_append, tryTx_sendAt_err] at hx
    exact ⟨pos, run_succ_of_next ((hrun.step_eq ho.ph_ne_idle).trans hx) 0⟩
  | succ k ih =>
    obtain ⟨b, ws, rfl⟩ : ∃ b ws, wire = b :: ws := by cases wire <;> simp_all
    obtain ⟨pos, pos', f, hx, hf, ho'⟩ := exec_owes hr ho i
    rw [ha, List.replicate_succ, List.cons_append, tryTx_sendAt_ok, hf] at hx
    obtain ⟨last, hlast⟩ := ih (hrun.sendAt pos' _ [.tx b .ok]) (hr.sendAt _ _ _) ho' (by simpa using hw) rfl
    rw [State.sendAt_sendAt] at hlast
    exact ⟨last, (run_succ_of_next ((hrun.step_eq ho.ph_ne_idle).trans hx) (k + 1)).trans hlast⟩

/-- In TX_LEAD the machine owes the frame of BODY and payload. -/
theorem State.Holds.owes_frame (hh : s.Holds i) (hs : s.Inv) (hp : s.ph = .txLead) :
    s.sendPos.Owes s.record (frame (s.body ++ i.payload)) := by
  simp [SendPos.Owes, State.sendPos, hp, hh.record_eq hs.pay_length]

theorem State.Inv.sendReady (hs : s.Inv) (hc : s.payChg = []) : s.SendReady where
  body_ne hnil := absurd hs.body_length.1 (by simp [hnil])
  pay_length := hs.pay_length
  held := hc

/-- Settles O33: by `run_failed_send`, since in TX_LEAD the machine owes the whole frame; a completion keeps the rest. -/
theorem transmitFailureEndsTheCommand : Obligations.TransmitFailureEndsTheCommand := by
  rintro i s k e answers _ w hs hh hp hr hc rfl hw ha
  obtain ⟨pos, hrun⟩ := run_failed_send ⟨hh, hr⟩ (hs.sendReady hc) (hh.owes_frame hs hp) hw ha
  exact ⟨_, hrun, rfl, rfl, by simp [State.sendAt, transportResult], rfl, rfl, rfl, rfl, rfl⟩

/-! ## A failed escape pair -/

/-- A receive with an escaped body before it. -/
def Received.afterBody (x : Bytes) (r : Received) : Received :=
  { r with bytes := x ++ r.bytes, used := (esc x).map .byte ++ r.used }

theorem Received.afterBody_nil : Received.afterBody [] = id := rfl

/-- An escaped body is received as the body and used up, whatever the positions after it receive. -/
theorem receiveData_esc_append (hp : p.escEscDecode = slipEsc) (x : Bytes) (n : Nat) (answers : List RxAnswer) :
    receiveData p (x.length + n) ((esc x).map .byte ++ answers) = (receiveData p n answers).map (.afterBody x) := by
  induction x with
  | nil => simp [esc, Received.afterBody_nil]
  | cons b x ih =>
    rw [esc_cons, List.map_append, List.append_assoc, List.length_cons, Nat.add_right_comm, receiveData_esc1 hp, ih,
      Option.map_map]
    congr 1
    funext r
    simp [Received.afterBody, Received.store, Received.after, esc_cons]

/-- A frame that begins with an escaped body goes on from there as the rest of its positions do. -/
theorem frameReceive_esc_append (hp : p.escEscDecode = slipEsc) (x : Bytes) (n : Nat) (answers : List RxAnswer) :
    frameReceive p (x.length + n) (.byte slipEnd :: ((esc x).map .byte ++ answers)) =
      (receiveData p n answers).map fun r => (r.afterBody x).after [.byte slipEnd] := by
  rw [frameReceive, if_pos rfl, receiveData_esc_append hp, Option.map_map]
  rfl

theorem receiveData_escape_err (p : Params) (n : Nat) (e : TransportErr) (rest : List RxAnswer) :
    receiveData p (n + 1) (.byte slipEsc :: .err e :: rest) = some (.stop (.transport e) [.byte slipEsc, .err e] rest) := rfl

theorem receiveData_escape_bad {c : Byte} (hc : unescape p c = none) (n : Nat) (rest : List RxAnswer) :
    receiveData p (n + 1) (.byte slipEsc :: .byte c :: rest) = some (.stop .badEscape [.byte slipEsc, .byte c] rest) := by
  simp [receiveData, hc]

/-- Settles O56: after the escaped bytes one position is left, and it stops at the pair (`receiveData_escape_err`,
`receiveData_escape_bad`). -/
theorem firstFailureIsReported : Obligations.FirstFailureIsReported := by
  intro n x bad e after hlt hend hesc
  obtain ⟨m, rfl⟩ : ∃ m, n = x.length + (m + 1) := ⟨n - x.length - 1, by omega⟩
  have hbad : unescape defaultParams bad = none := (if_neg hend).trans (if_neg hesc)
  have herr := frameReceive_esc_append (p := defaultParams) rfl x (m + 1) (.byte slipEsc :: .err e :: after)
  have hpair := frameReceive_esc_append (p := defaultParams) rfl x (m + 1) (.byte slipEsc :: .byte bad :: after)
  rw [receiveData_escape_err] at herr
  rw [receiveData_escape_bad hbad] at hpair
  constructor
  · simpa [Received.stop, Received.afterBody, Received.after, slipEnd, slipEsc] using herr
  · simpa [Received.stop, Received.afterBody, Received.after, slipEnd, slipEsc] using hpair

end Sys2Proof.Machine
end

section
/-! PROOFS. Reset and lost alignment (spec/70_reset_and_hazards.md R450, R451, R462): the state after reset, an RST pulse in any
phase, and the frame that is received one END late. -/

namespace Sys2Proof.Machine

variable {s : State} {p : Params} {x : Bytes}

/-! ## Reset -/

/-- Settles O48: `State.reset` is itself a block reset, which meets the invariant by `blockReset_inv`. -/
theorem resetMeetsTheInvariant : Obligations.ResetMeetsTheInvariant :=
  ⟨blockReset_inv State.reset, rfl, rfl, rfl⟩

/-- A pulse takes the whole step, in any phase (R450, R451, log 5). -/
theorem step_of_pulse (hr : s.rstNow = true) : step s = .next s.takeRst.blockReset := if_pos hr

/-- Settles O51: the pulse's step is `step_of_pulse`, and `step_of_request` then takes the request that stands first. -/
theorem resetPulseAbandonsTheCommand : Obligations.ResetPulseAbandonsTheCommand := by
  intro s later hrst
  have hpulse : s.rstNow = true := by simp [State.rstNow, hrst]
  refine ⟨_, step_of_pulse hpulse, rfl, rfl, rfl, rfl, rfl, rfl, rfl, fun r rest c hq hc hr => ?_⟩
  exact ⟨_, step_of_request hr rfl hq hc, rfl, rfl, congrArg List.tail hq⟩

/-! ## Lost alignment -/

/-- Bytes without ESC are received as themselves, and the byte after them decides how the frame ends (R162, R164). -/
theorem receiveData_verbatim_trailer (hx : slipEsc ∉ x) (t : Byte) (after : List RxAnswer) :
    receiveData p x.length (x.map .byte ++ .byte t :: after) =
      some ⟨x, if t = slipEnd then .good else .badTrailer, (x ++ [t]).map .byte, after⟩ := by
  induction x with
  | nil => rfl
  | cons b x ih =>
    obtain ⟨hb, hx⟩ := List.ne_and_not_mem_of_not_mem_cons hx
    simp only [List.length_cons, List.map_cons, List.cons_append, receiveData, if_neg (Ne.symm hb), ih hx, Option.map_some]
    rfl

/-- A frame of bytes without ESC is received as those bytes, and its last byte is tested as the trailer (R161, R164). -/
theorem frameReceive_verbatim_trailer (hx : slipEsc ∉ x) (t : Byte) (after : List RxAnswer) :
    frameReceive p x.length ((slipEnd :: x ++ [t]).map .byte ++ after) =
      some ⟨x, if t = slipEnd then .good else .badTrailer, (slipEnd :: x ++ [t]).map .byte, after⟩ := by
  have hstream : (slipEnd :: x ++ [t]).map RxAnswer.byte ++ after = .byte slipEnd :: (x.map .byte ++ .byte t :: after) := by simp
  rw [hstream, frameReceive, if_pos rfl, receiveData_verbatim_trailer hx]
  rfl

/-- A frame whose first byte is END has not the direction of a response (R301). -/
theorem frameMatches_end (x : Bytes) (cmd : Byte) : frameMatches (slipEnd :: x) cmd = false := by
  simp [frameMatches, slipEnd, dirResp]

/-- Settles O39: the second END is decoded as position 0 (`frameReceive_verbatim_trailer`), so d9 is the trailer, and the frame
begins with END (`frameMatches_end`). -/
theorem lostAlignmentFailsTheTrailer : Obligations.LostAlignmentFailsTheTrailer := by
  intro d0 d1 d2 d3 d4 d5 d6 d7 d8 d9 after hesc
  have hx : slipEsc ∉ slipEnd :: [d0, d1, d2, d3, d4, d5, d6, d7, d8] := List.not_mem_cons_of_ne_of_not_mem (by decide) hesc
  exact ⟨frameReceive_verbatim_trailer hx d9 after, frameMatches_end _⟩

end Sys2Proof.Machine
end

section
/-! PROOFS. The opcode table (spec/30_encoding.md section 8): the commands its header words decode to, and that its rows are disjoint. -/

namespace Sys2Proof

/-- Settles O1: the table's rows are tried on each of the ten words. -/
theorem headerWordsDecodeToTheirCommands : Obligations.HeaderWordsDecodeToTheirCommands := by
  unfold Obligations.HeaderWordsDecodeToTheirCommands
  decide

/-- Two rows that cover a common word ask for the same bits where both masks look. -/
theorem TableRow.covers_agree {r q : TableRow} {w : HeaderWord} (hr : r.covers w = true) (hq : q.covers w = true) :
    r.bits &&& q.mask = q.bits &&& r.mask := by
  rw [TableRow.covers, decide_eq_true_eq] at hr hq
  rw [← hr, ← hq, BitVec.and_assoc, BitVec.and_assoc, BitVec.and_comm r.mask]

/-- Any two rows of the table ask for different bits somewhere where both masks look. -/
theorem opcodeTable_eq_of_agree : ∀ r ∈ opcodeTable, ∀ q ∈ opcodeTable, r.bits &&& q.mask = q.bits &&& r.mask → r = q := by
  decide

/-- Settles O2: a common word makes the rows agree where both masks look, and only a row and itself do. -/
theorem opcodeTableRowsAreDisjoint : Obligations.OpcodeTableRowsAreDisjoint :=
  fun r hr q hq _ hrw hqw => opcodeTable_eq_of_agree r hr q hq (TableRow.covers_agree hrw hqw)

end Sys2Proof
end

section
/-! PROOFS. What a state's registers can still show (spec/10_state.md section 6, U2). `State.shown` blanks the registers that no step
from the state's phase on reads before one writes them; a step from a state and one from its blanked copy leave states with the same
blanked copy. -/

namespace Sys2Proof.Machine

variable {s t : State} {i : Instr} {bs : Bytes} {m n : Nat}

/-! ## A buffer with a part blanked -/

/-- The first `n` bytes, and 0 for each byte after them. -/
def blankFrom (n : Nat) (bs : Bytes) : Bytes := bs.take n ++ List.replicate (bs.length - n) 0

theorem blankFrom_length (n : Nat) (bs : Bytes) : (blankFrom n bs).length = bs.length := by
  simp only [blankFrom, List.length_append, List.length_take, List.length_replicate]
  omega

theorem blankFrom_zero (bs : Bytes) : blankFrom 0 bs = List.replicate bs.length 0 := by simp [blankFrom]

theorem blankFrom_getElem? (n k : Nat) (bs : Bytes) :
    (blankFrom n bs)[k]? = if k < n then bs[k]? else if k < bs.length then some 0 else none := by
  grind [blankFrom]

/-- Blanking more covers what was blanked before. -/
theorem blankFrom_blankFrom (h : m ≤ n) : blankFrom m (blankFrom n bs) = blankFrom m bs := by
  apply List.ext_getElem?
  intro k
  simp only [blankFrom_getElem?, blankFrom_length]
  by_cases hk : k < m
  · simp [hk, show k < n by omega]
  · simp [hk]

/-- A byte written where the blanked part begins. -/
theorem blankFrom_set (n : Nat) (bs : Bytes) (v : Byte) :
    blankFrom (n + 1) ((blankFrom n bs).set n v) = blankFrom (n + 1) (bs.set n v) := by
  apply List.ext_getElem?
  intro k
  simp only [blankFrom_getElem?, List.getElem?_set, List.length_set, blankFrom_length]
  grind

/-! ## The registers that can still show -/

/-- The state with a fixed value in every register that no step from its phase on reads before one writes it. In IDLE these are all
per-command registers. Acceptance writes the latch and NDISC, BUILD writes BODY, TX_LEAD writes TI and ESCP, which show until TX_BODY
ends, RX_HUNT writes RI, and each stored byte is one more of RB; CHK goes into BODY within BUILD. -/
def State.shown (s : State) : State :=
  match s.ph with
  | .idle => { s with
      curCmd := 0, want := false, arg0 := 0, arg1 := 0, arg2 := 0, arg3 := 0, pay := [], len := 0, ndisc := 0, body := [],
      chk := 0, ti := 0, escp := none, rb := blankFrom 0 s.rb, ri := 0 }
  | .build => { s with body := [], chk := 0, ti := 0, escp := none, rb := blankFrom 0 s.rb, ri := 0 }
  | .txLead | .txTrail | .rxHunt => { s with chk := 0, ti := 0, escp := none, rb := blankFrom 0 s.rb, ri := 0 }
  | .txBody => { s with chk := 0, rb := blankFrom 0 s.rb, ri := 0 }
  | .rxData | .rxEsc => { s with chk := 0, ti := 0, escp := none, rb := blankFrom s.ri s.rb }
  | .rxTrail | .matching | .status => { s with
      chk := 0, ti := 0, escp := none, rb := blankFrom defaultParams.respLen s.rb, ri := 0 }

/-- The outcome with its next state blanked. -/
def showNext : Out → Out
  | .next s => .next s.shown
  | .fault f => .fault f
  | .refused r => .refused r

theorem showNext_eq_next {o : Out} : showNext o = .next t ↔ ∃ u, o = .next u ∧ u.shown = t := by cases o <;> simp [showNext]

theorem showNext_eq_fault {o : Out} {f : Fault} : showNext o = .fault f ↔ o = .fault f := by cases o <;> simp [showNext]

theorem showNext_eq_refused {o : Out} {r : Refusal} : showNext o = .refused r ↔ o = .refused r := by cases o <;> simp [showNext]

/-! ### What blanking leaves alone -/

section
variable (s)

@[simp] theorem shown_ph : s.shown.ph = s.ph := by unfold State.shown; split <;> rfl
@[simp] theorem shown_seq : s.shown.seq = s.seq := by unfold State.shown; split <;> rfl
@[simp] theorem shown_res : s.shown.res = s.res := by unfold State.shown; split <;> rfl
@[simp] theorem shown_events : s.shown.events = s.events := by unfold State.shown; split <;> rfl
@[simp] theorem shown_reqs : s.shown.reqs = s.reqs := by unfold State.shown; split <;> rfl
@[simp] theorem shown_rstNow : s.shown.rstNow = s.rstNow := by unfold State.shown; split <;> rfl
@[simp] theorem shown_txAnswer : s.shown.txAnswer = s.txAnswer := by unfold State.shown; split <;> rfl
@[simp] theorem shown_rxAnswer : s.shown.rxAnswer = s.rxAnswer := by unfold State.shown; split <;> rfl

@[simp] theorem shown_shown : s.shown.shown = s.shown := by
  cases hp : s.ph <;> simp [State.shown, hp, blankFrom_blankFrom]

/-- A reset forgets what was blanked. -/
theorem shown_blockReset : s.shown.blockReset = s.blockReset := by unfold State.shown; split <;> rfl

/-! ### Operations that commute with blanking -/

theorem shown_takeRst : s.shown.takeRst = s.takeRst.shown := by
  cases hp : s.ph <;> simp [State.shown, State.takeRst, hp]

theorem shown_afterTx (b : Byte) : s.shown.afterTx b = (s.afterTx b).shown := by
  cases hp : s.ph <;> simp [State.shown, State.afterTx, State.txAnswer, hp]

theorem shown_afterRx : s.shown.afterRx = s.afterRx.shown := by
  cases hp : s.ph <;> simp [State.shown, State.afterRx, State.rxAnswer, hp]

theorem shown_emit (e : PortEvent) : s.shown.emit e = (s.emit e).shown := by
  cases hp : s.ph <;> simp [State.shown, State.emit, hp]

/-- In IDLE, where a completion leads, all is blanked that any other phase blanks. -/
theorem complete_shown (r : Result) : (s.shown.complete r).shown = (s.complete r).shown := by
  cases hp : s.ph <;> simp [State.shown, State.complete, hp, blankFrom_blankFrom]

end

/-! ## One step from the blanked state -/

/-- A TxWrite shows nothing blanked, if what follows its `ok` does not. -/
theorem tryTx_shown {b : Byte} {k : State → Out} (hk : showNext (k (s.afterTx b).shown) = showNext (k (s.afterTx b))) :
    showNext (tryTx b s.shown k) = showNext (tryTx b s k) := by
  unfold tryTx
  rw [shown_txAnswer, shown_afterTx]
  cases s.txAnswer with
  | ok => exact hk
  | err e => exact congrArg Host.Outcome.next (complete_shown _ _)

/-- An RxRead shows nothing blanked, if what follows the byte does not. -/
theorem tryRx_shown {k : Byte → State → Out} (hk : ∀ b, showNext (k b s.afterRx.shown) = showNext (k b s.afterRx)) :
    showNext (tryRx s.shown k) = showNext (tryRx s k) := by
  unfold tryRx
  rw [shown_rxAnswer, shown_afterRx]
  cases s.rxAnswer with
  | byte b => exact hk b
  | err e => exact congrArg Host.Outcome.next (complete_shown _ _)

/-- Acceptance writes the latch and NDISC. -/
theorem accept_shown (hp : s.ph = .idle) (r : Request) : (s.shown.dropRequest.accept r).shown = (s.dropRequest.accept r).shown := by
  simp [State.shown, State.accept, State.dropRequest, hp, blankFrom_blankFrom]

theorem idleStep_shown (hp : s.ph = .idle) : showNext (idleStep s.shown) = showNext (idleStep s) := by
  unfold idleStep
  rw [shown_reqs]
  cases s.reqs with
  | nil => exact congrArg Host.Outcome.next (shown_shown s)
  | cons r rest =>
    dsimp only
    cases decodeRequest r with
    | ok i => exact congrArg Host.Outcome.next (accept_shown hp r)
    | rejected why => rfl

/-- BUILD writes BODY. -/
theorem builder_shown (hp : s.ph = .build) (i : Instr) : (builder i s.shown).shown = (builder i s).shown := by
  cases i <;> simp [State.shown, builder, State.buildPlain, State.buildData, State.built, State.restartSeq, State.advanceSeq,
    State.takeChecksum, hp, blankFrom_blankFrom]

/-- TX_LEAD writes TI and ESCP. -/
theorem beginBody_shown (hp : s.ph = .txLead) : s.shown.beginBody.shown = s.beginBody.shown := by
  simp [State.shown, State.beginBody, hp, blankFrom_blankFrom]

/-- TX_BODY reads the registers of FrameSend as they are. -/
theorem shown_send (hp : s.ph = .txBody) : s.shown.escp = s.escp ∧ s.shown.ti = s.ti ∧ s.shown.sendTotal = s.sendTotal ∧
    s.shown.sendByte = s.sendByte := by
  simp [State.shown, State.sendTotal, State.sendByte, State.sendsPayload, State.payByte, hp]

/-- The same registers can show in TX_TRAIL and in RX_HUNT. -/
theorem goto_rxHunt_shown (hp : s.ph = .txTrail) : (s.shown.goto .rxHunt).shown = (s.goto .rxHunt).shown := by
  simp [State.shown, State.goto, hp, blankFrom_blankFrom]

/-- The end of a TX_BODY step tests ESCP and TI, and in TX_TRAIL they show no more. -/
theorem txBodyDone_shown (hp : s.ph = .txBody) : (txBodyDone s.shown).shown = (txBodyDone s).shown := by
  obtain ⟨hescp, hti, htotal, _⟩ := shown_send hp
  unfold txBodyDone
  rw [hescp, hti, htotal]
  split
  · simp [State.shown, State.goto, hp, blankFrom_blankFrom]
  · exact shown_shown s

theorem txBodyStep_shown (hp : s.ph = .txBody) : showNext (txBodyStep s.shown) = showNext (txBodyStep s) := by
  obtain ⟨hescp, hti, htotal, hbyte⟩ := shown_send hp
  have hdrop : s.shown.dropEscp = s.dropEscp.shown := by simp [State.shown, State.dropEscp, hp]
  have hpast : s.shown.pastByte = s.pastByte.shown := by
    simp [State.shown, State.pastByte, State.changesLeft, State.sendByte, State.sendsPayload, State.payByte, hp]
  unfold txBodyStep
  rw [hescp]
  cases s.escp with
  | some w =>
    simp only [txEscapeStep, hdrop]
    exact tryTx_shown (congrArg Host.Outcome.next (txBodyDone_shown hp))
  | none =>
    simp only [hti, htotal, txByteStep, hbyte, hpast]
    split
    · exact tryTx_shown (congrArg Host.Outcome.next (txBodyDone_shown hp))
    · rfl

/-- A stored byte extends the part of RB the command has written; the last one leaves no byte of RB unwritten. -/
theorem store_shown (hp : s.ph = .rxData ∨ s.ph = .rxEsc) (v : Byte) :
    (s.shown.store defaultParams.respLen v).shown = (s.store defaultParams.respLen v).shown := by
  have hshown : s.shown = { s with chk := 0, ti := 0, escp := none, rb := blankFrom s.ri s.rb } := by
    obtain hp | hp := hp <;> simp [State.shown, hp]
  rw [hshown]
  by_cases hlast : s.ri + 1 < defaultParams.respLen
  · simp [State.shown, State.store, hlast, blankFrom_set]
  · have hrb : blankFrom defaultParams.respLen ((blankFrom s.ri s.rb).set s.ri v) =
        blankFrom defaultParams.respLen (s.rb.set s.ri v) := by
      rw [← blankFrom_blankFrom (Nat.not_lt.mp hlast), blankFrom_set, blankFrom_blankFrom (Nat.not_lt.mp hlast)]
    simp [State.shown, State.store, hlast, hrb]

theorem rxHuntStep_shown (hp : s.ph = .rxHunt) : showNext (rxHuntStep s.shown) = showNext (rxHuntStep s) := by
  refine tryRx_shown fun b => ?_
  split
  · simp [showNext, State.shown, State.beginData, hp, blankFrom_blankFrom]
  · exact congrArg Host.Outcome.next (shown_shown _)

theorem rxDataStep_shown (hp : s.ph = .rxData) :
    showNext (rxDataStep defaultParams s.shown) = showNext (rxDataStep defaultParams s) := by
  refine tryRx_shown fun b => ?_
  split
  · simp [showNext, State.shown, State.goto, hp, blankFrom_blankFrom]
  · exact congrArg Host.Outcome.next (store_shown (s := s.afterRx) (.inl hp) b)

theorem rxEscStep_shown (hp : s.ph = .rxEsc) :
    showNext (rxEscStep defaultParams s.shown) = showNext (rxEscStep defaultParams s) := by
  refine tryRx_shown fun c => ?_
  cases unescape defaultParams c with
  | some v => exact congrArg Host.Outcome.next (store_shown (s := s.afterRx) (.inr hp) v)
  | none => exact congrArg Host.Outcome.next (complete_shown _ _)

theorem rxTrailStep_shown (hp : s.ph = .rxTrail) : showNext (rxTrailStep s.shown) = showNext (rxTrailStep s) := by
  refine tryRx_shown fun b => ?_
  split
  · simp [showNext, State.shown, State.goto, hp, blankFrom_blankFrom]
  · exact congrArg Host.Outcome.next (complete_shown _ _)

/-- MATCH reads RB[0] and RB[1], which the received frame has written (R301). -/
theorem matchStep_shown (hp : s.ph = .matching) :
    showNext (matchStep defaultParams s.shown) = showNext (matchStep defaultParams s) := by
  have hmatch : frameMatches s.shown.rb s.shown.curCmd = frameMatches s.rb s.curCmd := by
    simp [State.shown, hp, frameMatches, blankFrom_getElem?, defaultParams]
  unfold matchStep discardFrame
  rw [hmatch]
  simp only [defaultParams, discardExceeds]
  split
  · simp [showNext, State.shown, State.goto, hp, blankFrom_blankFrom]
  · simp [showNext, State.shown, State.goto, State.countDiscard, hp, blankFrom_blankFrom]

/-- STATUS reads the value, status and error bytes of RB, which the received frame has written (R303, R304). -/
theorem statusStep_shown (hp : s.ph = .status) : showNext (statusStep s.shown) = showNext (statusStep s) := by
  have hrb : s.shown.rb = blankFrom defaultParams.respLen s.rb := by simp [State.shown, hp]
  have hfails : statusFails s.shown.rb = statusFails s.rb := by simp [hrb, statusFails, blankFrom_getElem?, defaultParams]
  have hcat : respCategory s.shown.rb = respCategory s.rb := by simp [hrb, respCategory, blankFrom_getElem?, defaultParams]
  have hok : okResult s.shown.want s.shown.rb = okResult s.want s.rb := by
    simp [State.shown, hp, okResult, respValue, rdLe32, blankFrom_getElem?, defaultParams]
  unfold statusStep completeOk raiseInvalid
  rw [hfails, hcat, hok, shown_emit]
  split <;> exact congrArg Host.Outcome.next (complete_shown _ _)

/-- Outside IDLE a step of a command shows nothing that was blanked before it. -/
theorem exec_shown (hi : s.ph ≠ .idle) (i : Instr) : showNext (exec i s.shown) = showNext (exec i s) := by
  simp only [exec_eq_execute, execute, shown_ph]
  cases hp : s.ph with
  | idle => exact absurd hp hi
  | build => exact congrArg Host.Outcome.next (builder_shown hp i)
  | txLead => exact tryTx_shown (congrArg Host.Outcome.next (beginBody_shown hp))
  | txBody => exact txBodyStep_shown hp
  | txTrail => exact tryTx_shown (congrArg Host.Outcome.next (goto_rxHunt_shown hp))
  | rxHunt => exact rxHuntStep_shown hp
  | rxData => exact rxDataStep_shown hp
  | rxEsc => exact rxEscStep_shown hp
  | rxTrail => exact rxTrailStep_shown hp
  | matching => exact matchStep_shown hp
  | status => exact statusStep_shown hp

/-- Outside IDLE the latch is not blanked. -/
theorem shown_latched (hi : s.ph ≠ .idle) : s.shown.latched = s.latched := by
  cases hp : s.ph with
  | idle => exact absurd hp hi
  | build | txLead | txBody | txTrail | rxHunt | rxData | rxEsc | rxTrail | matching | status =>
    simp [State.shown, State.latched, hp]

theorem busyStep_shown (hi : s.ph ≠ .idle) : showNext (busyStep s.shown) = showNext (busyStep s) := by
  have hlatched := shown_latched hi
  have hcmd : s.shown.curCmd = s.curCmd := congrArg Request.cmd hlatched
  unfold busyStep State.current
  rw [hlatched, hcmd]
  cases decodeRequest s.latched with
  | ok i => exact exec_shown hi i
  | rejected why => rfl

/-- A step shows nothing that was blanked before it. -/
theorem step_shown (s : State) : showNext (step s.shown) = showNext (step s) := by
  unfold step runStep
  rw [shown_rstNow, shown_takeRst, shown_blockReset, shown_ph]
  split
  · rfl
  · split
    · exact idleStep_shown ‹_›
    · exact busyStep_shown ‹_›

/-! ## Runs -/

theorem showNext_step (h : s.shown = t.shown) : showNext (step s) = showNext (step t) := by
  rw [← step_shown s, h, step_shown]

/-- States with one blanked copy stay so for any number of steps. -/
theorem showNext_run (h : s.shown = t.shown) (k : Nat) : showNext (run k s) = showNext (run k t) := by
  induction k generalizing s t with
  | zero => exact congrArg Host.Outcome.next h
  | succ k ih =>
    have hstep := (showNext_step h).symm
    cases hs : step s with
    | next u =>
      obtain ⟨v, ht, huv⟩ := showNext_eq_next.mp (hs ▸ hstep)
      rw [run_succ_of_next hs, run_succ_of_next ht]
      exact ih huv.symm
    | fault f =>
      have ht := showNext_eq_fault.mp (hs ▸ hstep)
      rw [run_succ_of_fault hs, run_succ_of_fault ht]
    | refused r =>
      have ht := showNext_eq_refused.mp (hs ▸ hstep)
      rw [run_succ_of_refused hs, run_succ_of_refused ht]

/-- Blanking leaves everything the block exposes. -/
theorem sameObserved_of_showNext {a b : Out} (h : showNext a = showNext b) : SameObserved a b := by
  cases b with
  | next t =>
    obtain ⟨s, rfl, hst⟩ := showNext_eq_next.mp h
    have hread {α : Type} (f : State → α) : f s.shown = f t.shown := congrArg f hst
    exact ⟨by simpa using hread State.ph, by simpa using hread State.seq, by simpa using hread State.res,
      by simpa using hread State.events⟩
  | fault f => rw [showNext_eq_fault.mp h]; rfl
  | refused r => rw [showNext_eq_refused.mp h]; rfl

/-- In IDLE blanking leaves only what the two states share, and RB's length. -/
theorem State.SameOutside.shown_eq (h : s.SameOutside t) (hrb : s.rb.length = t.rb.length) : s.shown = t.shown := by
  obtain ⟨hs, ht, hseq, hres, hreqs, htx, hrx, hpay, hrst, hdraws, hevents⟩ := h
  simp [State.shown, hs, ht, blankFrom_zero, hrb, hseq, hres, hreqs, htx, hrx, hpay, hrst, hdraws, hevents]

/-- Settles O57: the two states have one blanked copy, so their runs do (`showNext_run`), and blanking leaves what is observed. -/
theorem unspecifiedRegistersAreUnobservable : Obligations.UnspecifiedRegistersAreUnobservable :=
  fun _ _ k h hs ht => sameObserved_of_showNext (showNext_run (h.shown_eq (hs.trans ht.symm)) k)

end Sys2Proof.Machine
end
